-- ==== Sys2Proof/Word.lean ====
section
/-! DEFINITION. The fixed parameters of the hardware (00_scope R7) and the words that are as wide as they say: characters, glyphs,
transmitted words, messages (R9, R12; 10_state R20, R21). No quantity of this hardware is signed. -/

namespace Sys2Proof

/-- The fixed parameters (R7), one field each, and the widths of the registers that hold a count or an index (10_state R20), which
have to suffice for them (`Params.Fits`). Every type of this model takes its width from `Params.source`, and every rule its
positions, counts and bounds, so that another value stands in one place (log entry 12). -/
structure Params where
  /-- NDIGITS: digit positions of the display bank. -/
  ndigits : Nat
  /-- GLYPH_W: bits of a glyph, and bits clocked out per digit. -/
  glyphW : Nat
  /-- NSEG: segment bits of a glyph, from bit 0 up. -/
  nseg : Nat
  /-- ADDR_W: digit-address bits, from bit NSEG up. -/
  addrW : Nat
  /-- CHAR_W: bits of a character code. -/
  charW : Nat
  /-- MSG_MIN and MSG_MAX: least and greatest message length. -/
  msgMin : Nat
  msgMax : Nat
  /-- SETTLE_UNITS: time-units each digit is held. -/
  settleUnits : Nat
  /-- FRAME_THRESHOLD: frames per window advance. -/
  frameThreshold : Nat
  /-- BLANK: the blank glyph. -/
  blank : BitVec glyphW
  /-- N_FONT_DIGIT, N_FONT_UPPER, N_FONT_LOWER: entries of the three tables. -/
  nFontDigit : Nat
  nFontUpper : Nat
  nFontLower : Nat
  /-- N_PUNCT: characters in the punctuation mapping. -/
  nPunct : Nat
  /-- Widths of `len`, `j`, `loops`, `bitcnt` and `settlecnt` (R20: enough for what they count). -/
  lenW : Nat
  jW : Nat
  loopsW : Nat
  bitcntW : Nat
  settlecntW : Nat

/-- The values the source gives (R7), and the spec's widths (R20). -/
@[reducible] def Params.source : Params where
  ndigits := 4
  glyphW := 16
  nseg := 14
  addrW := 2
  charW := 8
  msgMin := 1
  msgMax := 128
  settleUnits := 6
  frameThreshold := 10
  blank := 0x0000
  nFontDigit := 10
  nFontUpper := 26
  nFontLower := 26
  nPunct := 32
  lenW := 8
  jW := 7
  loopsW := 4
  bitcntW := 4
  settlecntW := 3

/-- What makes a choice of values consistent: the fields of a word fill it, an address names every digit, SETTLE_UNITS and
FRAME_THRESHOLD are at least 1 (D13), and no counter wraps below its bound. -/
abbrev Params.Fits (p : Params) : Prop :=
  p.addrW + p.nseg = p.glyphW ∧ p.ndigits = 2 ^ p.addrW ∧ 1 ≤ p.msgMin ∧ p.msgMin ≤ p.msgMax ∧ 1 ≤ p.settleUnits ∧
  1 ≤ p.frameThreshold ∧ p.msgMax < 2 ^ p.lenW ∧ p.msgMax ≤ 2 ^ p.jW ∧ p.frameThreshold ≤ 2 ^ p.loopsW ∧
  p.glyphW ≤ 2 ^ p.bitcntW ∧ p.settleUnits ≤ 2 ^ p.settlecntW

/-- The source's values are consistent. Other values that are not would stop this file. -/
theorem Params.source_fits : Params.source.Fits := by decide

/-- A character code, and one byte of the persistent store, which holds one character a byte (R12, R91, R99). -/
abbrev Byte := BitVec Params.source.charW

/-- A glyph: the bits above NSEG reserved, one bit per display segment below (R94). -/
abbrev Glyph := BitVec Params.source.glyphW

/-- The word sent for one digit: the digit address above, the segments below (R95). The chain's two registers hold one (R30). -/
abbrev TxWord := BitVec Params.source.glyphW

/-- Bits of one of the two bytes as which a word is sent (R65, R96). -/
@[reducible] def wireByteW : Nat := Params.source.glyphW / 2

/-- A digit address or position (R24, R95). -/
abbrev DigitAddr := BitVec Params.source.addrW

/-- The segment bits of a word, and the segment lines (R95, R183). -/
abbrev Segments := BitVec Params.source.nseg

/-- The digit enables, one bit per position (R184). -/
abbrev Enables := BitVec Params.source.ndigits

/-- A window offset (R22). -/
abbrev Offset := BitVec Params.source.jW

/-- A message: its character codes, index 0 first, no terminator (R12). -/
abbrev Message := List Byte

end Sys2Proof
end

