-- ==== Sys2Proof/Machine/CharClass.lean ====
section
/-! DEFINITION. The character classes of CHAR8 by their code ranges (30_encoding R91).
The numeric ASCII codes are the spec's own general knowledge (93 G1, G3). -/

namespace Sys2Proof.Machine

/-- DIGIT: 0x30 <= c <= 0x39 (R91). -/
def isDigit (c : Byte) : Bool := decide (0x30 ≤ c.toNat) && decide (c.toNat ≤ 0x39)

/-- LOWER: 0x61 <= c <= 0x7A (R91). -/
def isLower (c : Byte) : Bool := decide (0x61 ≤ c.toNat) && decide (c.toNat ≤ 0x7A)

/-- UPPER: 0x41 <= c <= 0x5A (R91). -/
def isUpper (c : Byte) : Bool := decide (0x41 ≤ c.toNat) && decide (c.toNat ≤ 0x5A)

/-- ASCII's control characters 0x00..0x1F and 0x7F, which must yield blank (R93, D18, G3). -/
def isControl (c : Byte) : Bool := decide (c.toNat ≤ 0x1F) || decide (c.toNat = 0x7F)

/-- A code of one of the three range classes. -/
def isAlnum (c : Byte) : Bool := isDigit c || isLower c || isUpper c

end Sys2Proof.Machine
end

