-- ==== Sys2Proof/Config.lean ====
section
/-! DEFINITION. The configuration: the fixed parameters of Word.lean (00_scope R7) and the open parameters (R8), which no source gives. An open parameter is an opaque constant without a body: nothing can be proved of its value, so a
theorem about `Config.hw` holds for every value the spec allows it. The log entries are notes/assumptions/2, 5, 6, 8, 12. -/

namespace Sys2Proof

open Machine in
/-- What the source fixes of `PUNCT` (R93, D18): exactly `n` codes, each listed once, none a digit, a letter or a control character. -/
def punctLegal (n : Nat) (p : List (Byte × Glyph)) : Bool :=
  decide (p.length = n) && decide ((p.map Prod.fst).Nodup) && p.all fun e => !isAlnum e.1 && !isControl e.1

/-- The open parameters of a configuration (R8). Its fixed ones are those of `Params.source`, since the types are as wide as they
say; a rule reads both from its configuration. -/
structure Config where
  /-- FONT_DIGIT, FONT_UPPER, FONT_LOWER (R8, D17): open. -/
  fontDigit : Fin Params.source.nFontDigit → Glyph
  fontUpper : Fin Params.source.nFontUpper → Glyph
  fontLower : Fin Params.source.nFontLower → Glyph
  /-- PUNCT (R8, D18): the punctuation mapping as its list of (code, glyph) entries: open. -/
  punct : List (Byte × Glyph)
  /-- DEFAULT_MSG (R8, D16): open. -/
  defaultMsg : Message
  /-- T_UNIT (R8, D12): the duration of one time-unit. This model keeps no time, so no rule reads it. -/
  tUnit : Nat
  /-- SEGMAP (R8, D25): the physical segment of each of the bits 13 to 0. No rule of the spec uses it. -/
  segMap : Fin Params.source.nseg → Fin Params.source.nseg
  /-- INPUT_OVERFLOW_POLICY (R211, D21): what the input channel offers of a burst above MSG_MAX bytes (cut to MSG_MAX by the rule
  that uses it) and what of it stays in the channel. Open. -/
  overflowOffer : List Byte → List Byte
  overflowRest : List Byte → List Byte

/-! The fixed parameters of a configuration (R7). -/

@[reducible] def Config.ndigits (_ : Config) : Nat := Params.source.ndigits
@[reducible] def Config.glyphW (_ : Config) : Nat := Params.source.glyphW
@[reducible] def Config.nseg (_ : Config) : Nat := Params.source.nseg
@[reducible] def Config.addrW (_ : Config) : Nat := Params.source.addrW
@[reducible] def Config.charW (_ : Config) : Nat := Params.source.charW
@[reducible] def Config.msgMin (_ : Config) : Nat := Params.source.msgMin
@[reducible] def Config.msgMax (_ : Config) : Nat := Params.source.msgMax
@[reducible] def Config.settleUnits (_ : Config) : Nat := Params.source.settleUnits
@[reducible] def Config.frameThreshold (_ : Config) : Nat := Params.source.frameThreshold
@[reducible] def Config.blank (_ : Config) : Glyph := Params.source.blank
@[reducible] def Config.nFontDigit (_ : Config) : Nat := Params.source.nFontDigit
@[reducible] def Config.nFontUpper (_ : Config) : Nat := Params.source.nFontUpper
@[reducible] def Config.nFontLower (_ : Config) : Nat := Params.source.nFontLower
@[reducible] def Config.nPunct (_ : Config) : Nat := Params.source.nPunct

/-- WF_FONT (R127): every entry of the four font parameters has the bits above its NSEG segment bits clear. A named premise, never built into a rule. -/
def Config.WfFont (c : Config) : Prop :=
  (∀ k, (c.fontDigit k).toNat < 2 ^ c.nseg) ∧ (∀ k, (c.fontUpper k).toNat < 2 ^ c.nseg) ∧
  (∀ k, (c.fontLower k).toNat < 2 ^ c.nseg) ∧ ∀ e ∈ c.punct, e.2.toNat < 2 ^ c.nseg

/-! The open parameters of this hardware. -/

/-- FREE VALUE: the digit table (N1, D17). -/
opaque Config.anyFontDigit : Fin Params.source.nFontDigit → Glyph
/-- FREE VALUE: the uppercase table (N1, D17). -/
opaque Config.anyFontUpper : Fin Params.source.nFontUpper → Glyph
/-- FREE VALUE: the lowercase table (N1, D17). -/
opaque Config.anyFontLower : Fin Params.source.nFontLower → Glyph
/-- FREE VALUE: the punctuation entries, before the check of R93 (N2, D18). -/
opaque Config.anyPunct : List (Byte × Glyph)
/-- FREE VALUE: the first character of the default message (N4, D16). -/
opaque Config.anyDefaultHead : Byte
/-- FREE VALUE: the further characters of the default message; the first MSG_MAX - 1 of them count. -/
opaque Config.anyDefaultTail : List Byte
/-- FREE VALUE: the time-unit, less one, since it is positive (N5, D12). -/
opaque Config.anyTUnitPred : Nat
/-- FREE VALUE: the segment assignment (N3, D25). -/
opaque Config.anySegMap : Fin Params.source.nseg → Fin Params.source.nseg
/-- FREE VALUE: what is offered of an over-long burst (N9, D21). -/
opaque Config.anyOverflowOffer : List Byte → List Byte
/-- FREE VALUE: what stays in the channel of an over-long burst (N9, D21). -/
opaque Config.anyOverflowRest : List Byte → List Byte

/-! The contents after power-on of the six registers that INIT leaves unspecified (10_state R35, D9, D28). -/

/-- FREE VALUE: SDAT after power-on. -/
opaque Config.powerOnSdat : Bool
/-- FREE VALUE: SR after power-on. -/
opaque Config.powerOnSr : TxWord
/-- FREE VALUE: OUT after power-on: any one digit may be lit with any pattern (R188). -/
opaque Config.powerOnOut : TxWord
/-- FREE VALUE: W after power-on. -/
opaque Config.powerOnW : TxWord
/-- FREE VALUE: bitcnt after power-on. -/
opaque Config.powerOnBitcnt : BitVec Params.source.bitcntW
/-- FREE VALUE: settlecnt after power-on. -/
opaque Config.powerOnSettlecnt : BitVec Params.source.settlecntW

/-- Entry `k` of the stand-in of `Config.openPunct`: the codes 0x21..0x2F, 0x3A..0x40, 0x5B..0x60, 0x7B..0x7E in order, all blank. -/
def punctStandIn : List (Byte × Glyph) :=
  (((List.range 15).map (0x21 + ·)) ++ ((List.range 7).map (0x3A + ·)) ++ ((List.range 6).map (0x5B + ·)) ++
    ((List.range 4).map (0x7B + ·))).map fun n => (BitVec.ofNat _ n, 0)

/-- The punctuation mapping: the free entries where they are what R93 asks of them. The stand-in only makes the constraint of
R93 a theorem (`Config.hw_punctLegal`); every mapping that R93 allows is a value of `Config.anyPunct` and comes through
unchanged, so no statement can rest on the stand-in. -/
def Config.openPunct (n : Nat) : List (Byte × Glyph) :=
  if punctLegal n Config.anyPunct then Config.anyPunct else punctStandIn

/-- This hardware (R7, R8). -/
@[reducible] def Config.hw : Config where
  fontDigit := Config.anyFontDigit
  fontUpper := Config.anyFontUpper
  fontLower := Config.anyFontLower
  punct := Config.openPunct Params.source.nPunct
  defaultMsg := Config.anyDefaultHead :: Config.anyDefaultTail.take (Params.source.msgMax - 1)
  tUnit := Config.anyTUnitPred + 1
  segMap := Config.anySegMap
  overflowOffer := Config.anyOverflowOffer
  overflowRest := Config.anyOverflowRest

end Sys2Proof
end

