-- ==== Sys2Proof/Machine/State.lean ====
section
/-! DEFINITION. The state of the machine (10_state R20 to R32), what can stop a step, and the state after power-on (R35, R260).
Five fields are not the spec's registers: `store`, `inputs` and `offer` belong to the host (R5, R32, R202), `started` and
`answer` are the model's own (log entries 3 and 4). -/

namespace Sys2Proof.Machine

/-- `phase`: which operation runs next (R25, R103). -/
inductive Phase where
  | check | begin | setup | rise | fall | latch | settle | frameEnd
  deriving DecidableEq, Repr

/-- MODEL'S OWN: the value that a row without an effect on the state has answered (log entry 4). -/
inductive Answer where
  /-- no such row has run yet -/
  | nothing
  /-- a glyph: TRANSLATE and the CHAR8 rows (R120 to R125) -/
  | glyph (g : Glyph)
  /-- a message index: INDEX (R141) -/
  | index (k : Nat)
  /-- a word to transmit: PACK (R142) -/
  | word (w : TxWord)
  /-- what a word drives: the address DSEL, the segment lines SEG, the enables DIGIT_EN (R183, R184) -/
  | drive (dsel : DigitAddr) (seg : Segments) (en : Enables)
  /-- a message: STORE_LOAD and STOREREC (R204, R99) -/
  | message (m : Message)
  deriving DecidableEq, Repr

/-- Everything the spec gives the machine, and what the model adds to it. -/
structure State where
  /-- `msg` (R21): the message buffer. `len` is its length, `State.len`. -/
  msg : Message
  /-- `j` (R22): the window offset. -/
  j : Offset
  /-- `loops` (R23): the frame counter. -/
  loops : BitVec Params.source.loopsW
  /-- `i` (R24): the digit position. -/
  i : DigitAddr
  /-- `phase` (R25). -/
  phase : Phase
  /-- `bitcnt` (R25): bits of the current word completely clocked out. -/
  bitcnt : BitVec Params.source.bitcntW
  /-- `settlecnt` (R25): time-units of the current settle time that have elapsed. -/
  settlecnt : BitVec Params.source.settlecntW
  /-- `W` (R25): the word being transmitted. -/
  w : TxWord
  /-- `SDAT`, `SCLK`, `STRB` (R26): the levels of the three output lines. -/
  sdat : Bool
  sclk : Bool
  strb : Bool
  /-- `SR` (R30): the chain's shift register. -/
  sr : TxWord
  /-- `OUT` (R30): the chain's output register. -/
  out : TxWord
  /-- HOST: the persistent store (R60, R63), byte cells in canonical form. -/
  store : List Host.Cell
  /-- HOST: the input channel. Element k is the burst of bytes that arrives before the k-th coming check (R208, R209);
  an empty element means that no input arrives before that check. DESIGN CHOICE: what waits here is unbounded and nothing of it
  is lost while a frame runs; how much the host can hold is left open by R233 and N9 (log entry 23). -/
  inputs : List (List Byte)
  /-- HOST: the offer that the next MCHECK samples (R202). -/
  offer : Option Message
  /-- MODEL'S OWN: INIT has run (R203: once, before any engine operation). -/
  started : Bool
  /-- MODEL'S OWN: the last answer. -/
  answer : Answer
  deriving DecidableEq, Repr

/-- `len`: the current length of the message buffer (R21). -/
def State.len (s : State) : Nat := s.msg.length

/-- Why the machine is stuck: the states for which the rules give no step (R11, R69, R232 b). No rule reaches one of them from
the state that INIT leaves. Every one is SAFE: the model stops where the spec says that nothing is defined. -/
inductive Fault where
  /-- raised by every engine operation when `len` is 0 or above 128, and by INDEX when `len` is 0 (R69, R141); safe -/
  | stuckLength
  /-- raised by every engine operation when `j` is not below `len` (R69); safe -/
  | stuckOffset
  /-- raised by every engine operation when `loops` is not below FRAME_THRESHOLD (R33, R232); safe -/
  | stuckLoops
  /-- raised by every engine operation when `i` is not 0 in phase CHECK or FRAMEEND (R33, R152, R153); safe -/
  | stuckDigit
  /-- raised by every engine operation when SCLK is 1 in a phase other than FALL (R33), and by BFALL when SCLK is 0 (R146); safe -/
  | stuckClock
  /-- raised by every engine operation when STRB is 1 in phase SETUP, RISE, FALL or LATCH, or 0 in phase SETTLE (R33); safe -/
  | stuckStrobe
  /-- raised by an engine operation in a phase that does not select it (R103, R140); no step raises it; safe -/
  | stuckPhase
  /-- raised by DLATCH when fewer than 16 bits of the word have been clocked out (R147); safe -/
  | stuckBits
  /-- raised by DSETTLE when `settlecnt` is not below SETTLE_UNITS (R20, R25); safe -/
  | stuckSettle
  deriving DecidableEq, Repr

/-- What is turned away at the model's boundary. -/
inductive Refusal where
  /-- an operation without a meaning in this model (none is left); safe -/
  | notModelled (mnemonic : String)
  /-- raised by INIT, OFFER, STORE_SAVE and MCHECK for a message of length 0 or above 128, which the source says must be
  prevented upstream (R11, R201, R232 a); safe -/
  | invalidMessage
  /-- raised by step if the sequencer's phase code decodes to no operation; no state raises it, since all eight codes are legal; safe -/
  | undecodable
  deriving DecidableEq, Repr

/-- The outcome of one operation. -/
abbrev Result := Host.Outcome State Fault Refusal

/-- Power-on, before INIT (R35, R260): every register is unspecified. The six that stay unspecified after INIT are free values;
those that INIT writes before anything reads them hold zero, the first phase or the empty buffer (log entries 1 and 2). -/
def State.reset : State where
  msg := []
  j := 0
  loops := 0
  i := 0
  phase := .begin
  bitcnt := Config.powerOnBitcnt
  settlecnt := Config.powerOnSettlecnt
  w := Config.powerOnW
  sdat := Config.powerOnSdat
  sclk := false
  strb := false
  sr := Config.powerOnSr
  out := Config.powerOnOut
  store := []
  inputs := []
  offer := none
  started := false
  answer := .nothing

end Sys2Proof.Machine
end

