-- ==== Sys2Proof/Machine/Ops.lean ====
section
/-! DEFINITION. The named operations over the store, the lines, the chain and the message buffer.
The hardware raises no exception and has no return from one (60_exceptions R230, R236). What stands in an exception's place is
the one event that redirects the engine, the installation of a message: `State.install`, shared by INIT and MCHECK (R235). -/

namespace Sys2Proof.Machine

/-! ### The persistent store (20_memory R63, R67, R74) -/

/-- What a store byte that nothing has written reads as (log entry 9). R204: a store that reads all 0x00 or all 0xFF gives the default. -/
def storeErased : Byte := 0xFF

/-- MemRead(STORE, a, 1). -/
def storeRead : List Host.Cell → Nat → Byte
  | [], _ => storeErased
  | (k, v) :: mem, a => if k = a then v else storeRead mem a

/-- MemWrite(STORE, a, 1, v): the cells stay sorted by address, and a byte at its erased value has no cell. -/
def storeWrite : List Host.Cell → Nat → Byte → List Host.Cell
  | [], a, v => if v = storeErased then [] else [(a, v)]
  | (k, w) :: mem, a, v =>
    if a < k then (if v = storeErased then (k, w) :: mem else (a, v) :: (k, w) :: mem)
    else if a = k then (if v = storeErased then mem else (a, v) :: mem)
    else (k, w) :: storeWrite mem a v

/-- The bytes `bs` written one after the other at the offsets from `a` up. -/
def storeWriteFrom : List Host.Cell → Nat → List Byte → List Host.Cell
  | mem, _, [] => mem
  | mem, a, b :: bs => storeWriteFrom (storeWrite mem a b) (a + 1) bs

/-- The `n` bytes at the offsets from `a` up. -/
def storeReadFrom (mem : List Host.Cell) (a : Nat) : Nat → List Byte
  | 0 => []
  | n + 1 => storeRead mem a :: storeReadFrom mem (a + 1) n

/-- The canonical form: no cell holds the erased value, and the addresses rise strictly from `lo` up. -/
def storeWfFrom : Nat → List Host.Cell → Bool
  | _, [] => true
  | lo, (k, v) :: mem => decide (lo ≤ k) && decide (v ≠ storeErased) && storeWfFrom (k + 1) mem

/-- The canonical form of the store. -/
def storeWf (mem : List Host.Cell) : Bool := storeWfFrom 0 mem

/-! ### The store record (30_encoding R99, 43_host_interface R204 to R206) -/

/-- The record of a message: its length, its characters, the terminator 0x00, in the order in which they are written (R99, R205). -/
def recordBytes (m : Message) : List Byte := BitVec.ofNat _ m.length :: m ++ [0x00]

/-- STORE_SAVE's writes (R205). -/
def saveRecord (mem : List Host.Cell) (m : Message) : List Host.Cell := storeWriteFrom mem 0 (recordBytes m)

/-- The store after a loss of power when only the first `n` of STORE_SAVE's writes have happened (R206). -/
def tornSave (mem : List Host.Cell) (m : Message) (n : Nat) : List Host.Cell :=
  storeWriteFrom mem 0 ((recordBytes m).take n)

/-- 0x00 or 0xFF, either of which among the character bytes makes a record invalid (R99). -/
def isTerminator (b : Byte) : Bool := decide (b = 0x00) || decide (b = 0xFF)

/-- STORE_LOAD (R204): the byte at offset L + 1 is not examined (D20). -/
def loadRecord (c : Config) (mem : List Host.Cell) : Message :=
  let len := (storeRead mem 0).toNat
  let chars := storeReadFrom mem 1 len
  if len < c.msgMin || c.msgMax < len then c.defaultMsg
  else if chars.any isTerminator then c.defaultMsg
  else chars

/-! ### Messages (R201) -/

/-- A message is valid when its length is in MSG_MIN..MSG_MAX; its characters are unrestricted (R201, D24). -/
def validMsg (c : Config) (m : Message) : Bool := decide (c.msgMin ≤ m.length) && decide (m.length ≤ c.msgMax)

/-- The installation of a message: the buffer is replaced wholesale and the scan state becomes 0, 0 (R71, R153, R200, R235). -/
def State.install (s : State) (m : Message) : State := { s with msg := m, j := 0, loops := 0 }

/-! ### The lines and the chain's edges (R26, R181, R182, R189) -/

/-- SHIFT (R181): SR <- SR[14:0], SDAT. -/
def State.shift (s : State) : State := { s with sr := s.sr.extractLsb' 0 (Params.source.glyphW - 1) ++ BitVec.ofBool s.sdat }

/-- LATCHOUT (R182): OUT <- SR. -/
def State.latchOut (s : State) : State := { s with out := s.sr }

/-- SDAT <- b. A change of SDAT alone has no effect on the chain (R189). -/
def State.driveSdat (s : State) (b : Bool) : State := { s with sdat := b }

/-- SCLK <- b. A rising edge makes the chain shift in the same step (R145, R181); a falling edge or a steady level does nothing (R189). -/
def State.driveSclk (s : State) (b : Bool) : State :=
  { s with sclk := b, sr := if b && !s.sclk then s.shift.sr else s.sr }

/-- STRB <- b. A rising edge makes the chain copy SR into OUT in the same step (R147, R182); a falling edge or a steady level does nothing (R189). -/
def State.driveStrb (s : State) (b : Bool) : State :=
  { s with strb := b, out := if b && !s.strb then s.latchOut.out else s.out }

/-- phase <- p. -/
def State.toPhase (s : State) (p : Phase) : State := { s with phase := p }

/-! ### The host's side -/

/-- The answer of a row that changes no state of the machine. -/
def State.withAnswer (s : State) (a : Answer) : State := { s with answer := a }

/-- What the channel makes of one burst: nothing of an empty one (R210), the burst itself up to MSG_MAX bytes (R208, R209), and
above that an unstated message of at most MSG_MAX bytes, or nothing (R211, log entry 8). That no byte of a burst up to MSG_MAX
is lost, however long it waited, is the model's choice (R233, N9, log entry 23). -/
def burstOffer (c : Config) (burst : List Byte) : Option Message :=
  let m := if burst.length ≤ c.msgMax then burst else (c.overflowOffer burst).take c.msgMax
  if m.length < c.msgMin then none else some m

/-- What stays in the channel after one burst: nothing, unless it was too long (R211, log entry 8). -/
def burstRest (c : Config) (burst : List Byte) : List (List Byte) :=
  if burst.length ≤ c.msgMax || (c.overflowRest burst).isEmpty then [] else [c.overflowRest burst]

/-- ACCUMULATE (R208 to R211): the channel's next burst becomes the offer, unless it makes no message. -/
def State.accumulate (c : Config) (s : State) : State :=
  match s.inputs with
  | [] => s
  | burst :: later => { s with
      inputs := burstRest c burst ++ later
      offer := match burstOffer c burst with
        | some m => some m
        | none => s.offer }

/-- What the host has done when MCHECK samples the offer: a message presented before stands; otherwise the channel is read (R202, R212). -/
def State.gather (c : Config) (s : State) : State := if s.offer = none then s.accumulate c else s

/-- A loss of power and the power-on after it: only the persistent store survives (R241, R260). No step of the machine does this. -/
def State.powerCycle (s : State) : State := { State.reset with store := s.store }

end Sys2Proof.Machine
end

