-- ==== Sys2Proof/Machine/Chain.lean ====
section
/-! DEFINITION. The chain's two edge-triggered operations as rows of their own (42_display_chain R181, R182). The engine performs
them inside BRISE and DLATCH, through `State.driveSclk` and `State.driveStrb`. The chain counts no bits (U12). -/

namespace Sys2Proof.Machine

/-- CHAIN.SHIFT (R181). -/
def execChainShift (s : State) : Result := .next s.shift

/-- CHAIN.LATCHOUT (R182). -/
def execChainLatchout (s : State) : Result := .next s.latchOut

end Sys2Proof.Machine
end

