-- ==== Sys2Proof/Machine/Operands.lean ====
section
/-! DEFINITION. Operand assembly: the glyph of a character (40_glyph_encoder R120), the character index (30_encoding R98,
41 R141), the character read (20_memory R62), the transmitted word (30_encoding R97, 41 R142). -/

namespace Sys2Proof.Machine

/-- PUNCT(c), where c is in its domain (R124). -/
def punctGlyph (c : Config) (ch : Byte) : Option Glyph := (c.punct.find? fun e => e.1 == ch).map Prod.snd

/-- The blank glyph stands for a code that the punctuation mapping does not hold (R125). -/
def punctOrBlank (c : Config) (ch : Byte) : Glyph := (punctGlyph c ch).getD c.blank

/-- Entry `k` of a font table of `n` entries; there is none from `n` up, and a code without an entry is blank (R125). -/
def fontEntry (c : Config) {n : Nat} (table : Fin n → Glyph) (k : Nat) : Glyph :=
  if h : k < n then table ⟨k, h⟩ else c.blank

/-- `translate(c)` (R120): the source's classification order, first match wins. It is also MemRead(ROM, c, 2) (R61, R105). -/
def translate (c : Config) (ch : Byte) : Glyph :=
  if isDigit ch then fontEntry c c.fontDigit (ch.toNat - 0x30)
  else if isLower ch then fontEntry c c.fontLower (ch.toNat - 0x61)
  else if isUpper ch then fontEntry c c.fontUpper (ch.toNat - 0x41)
  else punctOrBlank c ch

/-- The glyph ROM as an image (R61, R105): `translate` of every code of CHAR_W bits, in order. -/
def romImage (c : Config) : List Glyph := (List.range (2 ^ c.charW)).map fun n => translate c (BitVec.ofNat _ n)

/-- `INDEX(j, i, len)` = (j + 3 - i) mod len in the natural numbers, undefined for len = 0 (R98, R141). -/
def indexOf (c : Config) (j i len : Nat) : Option Nat :=
  if len = 0 then none else some ((j + (c.ndigits - 1) - i) % len)

/-- MemRead(MSG, k, 1) (R62). -/
def msgRead (s : State) (k : Nat) : Option Byte := s.msg[k]?

/-- `PACK(i, g)` (R97, R142): the digit position is added to the high byte, bits 15:8, at the place of bit NSEG of the word
(i << 6); the carry out of the high byte is lost (D5). -/
def packWord (c : Config) (i : DigitAddr) (g : Glyph) : TxWord :=
  let hiTx : BitVec wireByteW := g.extractLsb' wireByteW wireByteW + (i.setWidth wireByteW <<< (c.nseg - wireByteW))
  hiTx ++ g.extractLsb' 0 wireByteW

/-- The character that DBEGIN fetches for the current digit (R143, steps 1a and 1b). -/
def fetchedChar (c : Config) (s : State) : Option Byte :=
  match indexOf c s.j.toNat s.i.toNat s.len with
  | none => none
  | some k => msgRead s k

/-- The bit of W that is presented next: W[15 - bitcnt] (R144). -/
def nextBit (c : Config) (s : State) : Bool := s.w.getLsbD (c.glyphW - 1 - s.bitcnt.toNat)

end Sys2Proof.Machine
end

