-- ==== Sys2Proof/Machine/Flags.lean ====
section
/-! DEFINITION. The hardware has no status flags (10_state R28). What stands in their place: the four tests that choose the
next phase (R27), the conditions under which the rules give a step (R33, R69), and the wires that the output register drives
(R30, R183, R184). -/

namespace Sys2Proof.Machine

/-- `bitcnt = 15`: the last bit of the word (R146). -/
def lastBit (c : Config) (s : State) : Bool := decide (s.bitcnt.toNat = c.glyphW - 1)

/-- `settlecnt = SETTLE_UNITS - 1`: the last time-unit of the settle time (R150). -/
def lastTick (c : Config) (s : State) : Bool := decide (s.settlecnt.toNat = c.settleUnits - 1)

/-- `i = 3`: the last digit of the frame (R150). -/
def lastDigit (c : Config) (s : State) : Bool := decide (s.i.toNat = c.ndigits - 1)

/-- `loops + 1 = FRAME_THRESHOLD`: the window advances (R152). -/
def windowDue (c : Config) (s : State) : Bool := decide (s.loops.toNat + 1 = c.frameThreshold)

/-- Whether `i` is a digit position, and 0 where R33 says so. -/
def digitOk (c : Config) (s : State) : Bool :=
  decide (s.i.toNat ≤ c.ndigits - 1) && (!(decide (s.phase = .check) || decide (s.phase = .frameEnd)) || decide (s.i = 0))

/-- Whether STRB has the level that R33 gives it in this phase. -/
def strobeOk (s : State) : Bool :=
  match s.phase with
  | .setup | .rise | .fall | .latch => !s.strb
  | .settle => s.strb
  | .check | .begin | .frameEnd => true

/-- The invariants of R33, outside which no rule gives a step (R69, R232 b): the first one that the state breaks. -/
def invariantFault (c : Config) (s : State) : Option Fault :=
  if s.len < c.msgMin || c.msgMax < s.len then some .stuckLength
  else if s.len ≤ s.j.toNat then some .stuckOffset
  else if c.frameThreshold ≤ s.loops.toNat then some .stuckLoops
  else if !digitOk c s then some .stuckDigit
  else if c.glyphW - 1 < s.bitcnt.toNat then some .stuckBits
  else if s.sclk && !decide (s.phase = .fall) then some .stuckClock
  else if !strobeOk s then some .stuckStrobe
  else none

/-- The operation `r` of phase `p` where the state satisfies R33 and `p` is its phase, stuck where not: in every state only the
operation that `phase` selects is enabled (R140, R237). -/
def enabled (c : Config) (p : Phase) (s : State) (r : Result) : Result :=
  match invariantFault c s with
  | some f => .fault f
  | none => if s.phase = p then r else .fault .stuckPhase

/-- The operation `r` where a part of its rule's precondition holds, stuck where it does not (R11). -/
def require (pre : Bool) (f : Fault) (r : Result) : Result := if pre then r else .fault f

/-- `DSEL` of a word: its ADDR_W bits from bit NSEG up, 15:14 (R95, R184). -/
def dselOf (c : Config) (w : TxWord) : DigitAddr := w.extractLsb' c.nseg c.addrW

/-- `SEG` of a word: its NSEG low bits, 13:0 (R95, R183). -/
def segOf (c : Config) (w : TxWord) : Segments := w.extractLsb' 0 c.nseg

/-- `DIGIT_EN`: bit k is 1 exactly when DSEL = k (R184). -/
def digitEnOf (dsel : DigitAddr) : Enables := 1 <<< dsel.toNat

/-- The wires of the display chain (R183, R184), continuously driven by OUT. -/
def State.seg (s : State) : Segments := segOf Config.hw s.out
def State.dsel (s : State) : DigitAddr := dselOf Config.hw s.out
def State.digitEn (s : State) : Enables := digitEnOf s.dsel

/-- Whether segment `k` of digit position `d` is lit: only the enabled digit shows SEG, the other three are dark (R183, R184). -/
def State.lit (s : State) (d : Nat) (k : Nat) : Bool := s.digitEn.getLsbD d && s.seg.getLsbD k

end Sys2Proof.Machine
end

