-- ==== Sys2Proof/Machine/Engine.lean ====
section
/-! DEFINITION. The eight operations of the scan-out engine (41_scan_out_engine R143 to R153), each over a configuration, and
the eight rows of format SEQ with this hardware's configuration. An operation has a step only in its own phase and in a state
that satisfies R33 (R140, R232 b), which gives the preconditions of R143, R144, R145, R150, R152 and R153; what BFALL, DLATCH and
DSETTLE need beyond that is asked for in them. Elsewhere the machine is stuck (log entries 11 and 22). -/

namespace Sys2Proof.Machine

/-- What DBEGIN does with the glyph `g` of the current digit's character (R143, steps 1c to 1e). -/
def beginDigit (c : Config) (s : State) (g : Glyph) : State :=
  ({ s with w := packWord c s.i g, bitcnt := 0 }.driveStrb false).toPhase .setup

/-- DBEGIN (R143). -/
def dbegin (c : Config) (s : State) : Result :=
  enabled c .begin s
    (match fetchedChar c s with
    | none => .fault .stuckLength
    | some ch => .next (beginDigit c s (translate c ch)))

/-- BSET (R144). -/
def bset (c : Config) (s : State) : Result :=
  enabled c .setup s (.next ((s.driveSdat (nextBit c s)).toPhase .rise))

/-- BRISE (R145). -/
def brise (c : Config) (s : State) : Result := enabled c .rise s (.next ((s.driveSclk true).toPhase .fall))

/-- BFALL (R146): bitcnt stays at 15 when the last bit is done. -/
def bfall (c : Config) (s : State) : Result :=
  enabled c .fall s (require s.sclk .stuckClock
    (.next (if lastBit c s then (s.driveSclk false).toPhase .latch
      else { s with bitcnt := s.bitcnt + 1 }.driveSclk false |>.toPhase .setup)))

/-- DLATCH (R147): 16 bits have been clocked out since DBEGIN when bitcnt is 15 and SCLK has fallen again. -/
def dlatch (c : Config) (s : State) : Result :=
  enabled c .latch s (require (lastBit c s) .stuckBits
    (.next (({ s with settlecnt := 0 }.driveStrb true).toPhase .settle)))

/-- DSETTLE (R150): one T_UNIT passes, which this model does not count (log entry 16). -/
def dsettle (c : Config) (s : State) : Result :=
  enabled c .settle s (require (decide (s.settlecnt.toNat < c.settleUnits)) .stuckSettle
    (.next (if lastTick c s then
        (if lastDigit c s then { s with i := 0 }.toPhase .frameEnd else { s with i := s.i + 1 }.toPhase .begin)
      else { s with settlecnt := s.settlecnt + 1 })))

/-- FEND (R152): increment, compare and reset in one operation. -/
def fend (c : Config) (s : State) : Result :=
  enabled c .frameEnd s
    (.next ((if windowDue c s then { s with loops := 0, j := BitVec.ofNat _ ((s.j.toNat + 1) % s.len) }
      else { s with loops := s.loops + 1 }).toPhase .check))

/-- The installation of an accepted offer, with the host's save of it, both inside the same MCHECK (R153, R202, R212). -/
def acceptOffer (s : State) (m : Message) : State :=
  { s.install m with store := saveRecord s.store m, offer := none }

/-- MCHECK (R153): the host has gathered its input; an offer of invalid length is refused at the boundary (R201). -/
def mcheck (c : Config) (s : State) : Result :=
  enabled c .check s
    (match (s.gather c).offer with
    | none => .next ((s.gather c).toPhase .begin)
    | some m => if validMsg c m then .next ((acceptOffer (s.gather c) m).toPhase .begin) else .refused .invalidMessage)

/-- MCHECK, phase CHECK (R153). -/
def execMcheck (s : State) : Result := mcheck Config.hw s

/-- DBEGIN, phase BEGIN (R143). -/
def execDbegin (s : State) : Result := dbegin Config.hw s

/-- BSET, phase SETUP (R144). -/
def execBset (s : State) : Result := bset Config.hw s

/-- BRISE, phase RISE (R145). -/
def execBrise (s : State) : Result := brise Config.hw s

/-- BFALL, phase FALL (R146). -/
def execBfall (s : State) : Result := bfall Config.hw s

/-- DLATCH, phase LATCH (R147). -/
def execDlatch (s : State) : Result := dlatch Config.hw s

/-- DSETTLE, phase SETTLE (R150). -/
def execDsettle (s : State) : Result := dsettle Config.hw s

/-- FEND, phase FRAMEEND (R152). -/
def execFend (s : State) : Result := fend Config.hw s

end Sys2Proof.Machine
end

