-- ==== Sys2Proof/Machine/Func.lean ====
section
/-! DEFINITION. The three pure functions of the table (30_encoding R104 e): evaluated inside DBEGIN, with no selector of their
own and no effect on the state; the row answers the value. -/

namespace Sys2Proof.Machine

/-- TRANSLATE (R120). -/
def execTranslate (c : Byte) (s : State) : Result := .next (s.withAnswer (.glyph (translate Config.hw c)))

/-- INDEX (R141): for len = 0 the function is undefined and there is no step. -/
def execIndex (j : Offset) (i : DigitAddr) (len : BitVec Params.source.lenW) (s : State) : Result :=
  match indexOf Config.hw j.toNat i.toNat len.toNat with
  | none => .fault .stuckLength
  | some k => .next (s.withAnswer (.index k))

/-- PACK (R142). -/
def execPack (i : DigitAddr) (g : Glyph) (s : State) : Result := .next (s.withAnswer (.word (packWord Config.hw i g)))

end Sys2Proof.Machine
end

