-- ==== Sys2Proof/Machine/GlyphDigit.lean ====
section
/-! DEFINITION. The rows GLYPH.DIGIT of the opcode table (40_glyph_encoder R121): the glyph ROM answers the entry of the
digit table at the row's index and changes no state of the machine (R120). -/

namespace Sys2Proof.Machine

/-- GLYPH.DIGIT.0, code 0x30: the result is FONT_DIGIT[0] (R121). -/
def execGlyphDigit0 (s : State) : Result := .next (s.withAnswer (.glyph (Config.hw.fontDigit 0)))

/-- GLYPH.DIGIT.1, code 0x31: the result is FONT_DIGIT[1] (R121). -/
def execGlyphDigit1 (s : State) : Result := .next (s.withAnswer (.glyph (Config.hw.fontDigit 1)))

/-- GLYPH.DIGIT.2, code 0x32: the result is FONT_DIGIT[2] (R121). -/
def execGlyphDigit2 (s : State) : Result := .next (s.withAnswer (.glyph (Config.hw.fontDigit 2)))

/-- GLYPH.DIGIT.3, code 0x33: the result is FONT_DIGIT[3] (R121). -/
def execGlyphDigit3 (s : State) : Result := .next (s.withAnswer (.glyph (Config.hw.fontDigit 3)))

/-- GLYPH.DIGIT.4, code 0x34: the result is FONT_DIGIT[4] (R121). -/
def execGlyphDigit4 (s : State) : Result := .next (s.withAnswer (.glyph (Config.hw.fontDigit 4)))

/-- GLYPH.DIGIT.5, code 0x35: the result is FONT_DIGIT[5] (R121). -/
def execGlyphDigit5 (s : State) : Result := .next (s.withAnswer (.glyph (Config.hw.fontDigit 5)))

/-- GLYPH.DIGIT.6, code 0x36: the result is FONT_DIGIT[6] (R121). -/
def execGlyphDigit6 (s : State) : Result := .next (s.withAnswer (.glyph (Config.hw.fontDigit 6)))

/-- GLYPH.DIGIT.7, code 0x37: the result is FONT_DIGIT[7] (R121). -/
def execGlyphDigit7 (s : State) : Result := .next (s.withAnswer (.glyph (Config.hw.fontDigit 7)))

/-- GLYPH.DIGIT.8, code 0x38: the result is FONT_DIGIT[8] (R121). -/
def execGlyphDigit8 (s : State) : Result := .next (s.withAnswer (.glyph (Config.hw.fontDigit 8)))

/-- GLYPH.DIGIT.9, code 0x39: the result is FONT_DIGIT[9] (R121). -/
def execGlyphDigit9 (s : State) : Result := .next (s.withAnswer (.glyph (Config.hw.fontDigit 9)))

end Sys2Proof.Machine
end

