-- ==== Sys2Proof/Machine/GlyphLower.lean ====
section
/-! DEFINITION. The rows GLYPH.LOWER of the opcode table (40_glyph_encoder R122): the glyph ROM answers the entry of the
lowercase table at the row's index and changes no state of the machine (R120). -/

namespace Sys2Proof.Machine

/-- GLYPH.LOWER.a, code 0x61: the result is FONT_LOWER[0] (R122). -/
def execGlyphLowerA (s : State) : Result := .next (s.withAnswer (.glyph (Config.hw.fontLower 0)))

/-- GLYPH.LOWER.b, code 0x62: the result is FONT_LOWER[1] (R122). -/
def execGlyphLowerB (s : State) : Result := .next (s.withAnswer (.glyph (Config.hw.fontLower 1)))

/-- GLYPH.LOWER.c, code 0x63: the result is FONT_LOWER[2] (R122). -/
def execGlyphLowerC (s : State) : Result := .next (s.withAnswer (.glyph (Config.hw.fontLower 2)))

/-- GLYPH.LOWER.d, code 0x64: the result is FONT_LOWER[3] (R122). -/
def execGlyphLowerD (s : State) : Result := .next (s.withAnswer (.glyph (Config.hw.fontLower 3)))

/-- GLYPH.LOWER.e, code 0x65: the result is FONT_LOWER[4] (R122). -/
def execGlyphLowerE (s : State) : Result := .next (s.withAnswer (.glyph (Config.hw.fontLower 4)))

/-- GLYPH.LOWER.f, code 0x66: the result is FONT_LOWER[5] (R122). -/
def execGlyphLowerF (s : State) : Result := .next (s.withAnswer (.glyph (Config.hw.fontLower 5)))

/-- GLYPH.LOWER.g, code 0x67: the result is FONT_LOWER[6] (R122). -/
def execGlyphLowerG (s : State) : Result := .next (s.withAnswer (.glyph (Config.hw.fontLower 6)))

/-- GLYPH.LOWER.h, code 0x68: the result is FONT_LOWER[7] (R122). -/
def execGlyphLowerH (s : State) : Result := .next (s.withAnswer (.glyph (Config.hw.fontLower 7)))

/-- GLYPH.LOWER.i, code 0x69: the result is FONT_LOWER[8] (R122). -/
def execGlyphLowerI (s : State) : Result := .next (s.withAnswer (.glyph (Config.hw.fontLower 8)))

/-- GLYPH.LOWER.j, code 0x6a: the result is FONT_LOWER[9] (R122). -/
def execGlyphLowerJ (s : State) : Result := .next (s.withAnswer (.glyph (Config.hw.fontLower 9)))

/-- GLYPH.LOWER.k, code 0x6b: the result is FONT_LOWER[10] (R122). -/
def execGlyphLowerK (s : State) : Result := .next (s.withAnswer (.glyph (Config.hw.fontLower 10)))

/-- GLYPH.LOWER.l, code 0x6c: the result is FONT_LOWER[11] (R122). -/
def execGlyphLowerL (s : State) : Result := .next (s.withAnswer (.glyph (Config.hw.fontLower 11)))

/-- GLYPH.LOWER.m, code 0x6d: the result is FONT_LOWER[12] (R122). -/
def execGlyphLowerM (s : State) : Result := .next (s.withAnswer (.glyph (Config.hw.fontLower 12)))

/-- GLYPH.LOWER.n, code 0x6e: the result is FONT_LOWER[13] (R122). -/
def execGlyphLowerN (s : State) : Result := .next (s.withAnswer (.glyph (Config.hw.fontLower 13)))

/-- GLYPH.LOWER.o, code 0x6f: the result is FONT_LOWER[14] (R122). -/
def execGlyphLowerO (s : State) : Result := .next (s.withAnswer (.glyph (Config.hw.fontLower 14)))

/-- GLYPH.LOWER.p, code 0x70: the result is FONT_LOWER[15] (R122). -/
def execGlyphLowerP (s : State) : Result := .next (s.withAnswer (.glyph (Config.hw.fontLower 15)))

/-- GLYPH.LOWER.q, code 0x71: the result is FONT_LOWER[16] (R122). -/
def execGlyphLowerQ (s : State) : Result := .next (s.withAnswer (.glyph (Config.hw.fontLower 16)))

/-- GLYPH.LOWER.r, code 0x72: the result is FONT_LOWER[17] (R122). -/
def execGlyphLowerR (s : State) : Result := .next (s.withAnswer (.glyph (Config.hw.fontLower 17)))

/-- GLYPH.LOWER.s, code 0x73: the result is FONT_LOWER[18] (R122). -/
def execGlyphLowerS (s : State) : Result := .next (s.withAnswer (.glyph (Config.hw.fontLower 18)))

/-- GLYPH.LOWER.t, code 0x74: the result is FONT_LOWER[19] (R122). -/
def execGlyphLowerT (s : State) : Result := .next (s.withAnswer (.glyph (Config.hw.fontLower 19)))

/-- GLYPH.LOWER.u, code 0x75: the result is FONT_LOWER[20] (R122). -/
def execGlyphLowerU (s : State) : Result := .next (s.withAnswer (.glyph (Config.hw.fontLower 20)))

/-- GLYPH.LOWER.v, code 0x76: the result is FONT_LOWER[21] (R122). -/
def execGlyphLowerV (s : State) : Result := .next (s.withAnswer (.glyph (Config.hw.fontLower 21)))

/-- GLYPH.LOWER.w, code 0x77: the result is FONT_LOWER[22] (R122). -/
def execGlyphLowerW (s : State) : Result := .next (s.withAnswer (.glyph (Config.hw.fontLower 22)))

/-- GLYPH.LOWER.x, code 0x78: the result is FONT_LOWER[23] (R122). -/
def execGlyphLowerX (s : State) : Result := .next (s.withAnswer (.glyph (Config.hw.fontLower 23)))

/-- GLYPH.LOWER.y, code 0x79: the result is FONT_LOWER[24] (R122). -/
def execGlyphLowerY (s : State) : Result := .next (s.withAnswer (.glyph (Config.hw.fontLower 24)))

/-- GLYPH.LOWER.z, code 0x7a: the result is FONT_LOWER[25] (R122). -/
def execGlyphLowerZ (s : State) : Result := .next (s.withAnswer (.glyph (Config.hw.fontLower 25)))

end Sys2Proof.Machine
end

