-- ==== Sys2Proof/Machine/GlyphOther.lean ====
section
/-! DEFINITION. The rows GLYPH.PUNCT and GLYPH.BLANK (40_glyph_encoder R124, R125). -/

namespace Sys2Proof.Machine

/-- GLYPH.PUNCT: the result is PUNCT(c) (R124). A well-formed operand is a code of the mapping; any other one is blank (R125). -/
def execGlyphPunct (c : Byte) (s : State) : Result := .next (s.withAnswer (.glyph (punctOrBlank Config.hw c)))

/-- GLYPH.BLANK: the result is 0x0000 whatever the code (R125). -/
def execGlyphBlank (_c : Byte) (s : State) : Result := .next (s.withAnswer (.glyph Config.hw.blank))

end Sys2Proof.Machine
end

