-- ==== Sys2Proof/Machine/GlyphUpper.lean ====
section
/-! DEFINITION. The rows GLYPH.UPPER of the opcode table (40_glyph_encoder R123): the glyph ROM answers the entry of the
uppercase table at the row's index and changes no state of the machine (R120). -/

namespace Sys2Proof.Machine

/-- GLYPH.UPPER.A, code 0x41: the result is FONT_UPPER[0] (R123). -/
def execGlyphUpperA (s : State) : Result := .next (s.withAnswer (.glyph (Config.hw.fontUpper 0)))

/-- GLYPH.UPPER.B, code 0x42: the result is FONT_UPPER[1] (R123). -/
def execGlyphUpperB (s : State) : Result := .next (s.withAnswer (.glyph (Config.hw.fontUpper 1)))

/-- GLYPH.UPPER.C, code 0x43: the result is FONT_UPPER[2] (R123). -/
def execGlyphUpperC (s : State) : Result := .next (s.withAnswer (.glyph (Config.hw.fontUpper 2)))

/-- GLYPH.UPPER.D, code 0x44: the result is FONT_UPPER[3] (R123). -/
def execGlyphUpperD (s : State) : Result := .next (s.withAnswer (.glyph (Config.hw.fontUpper 3)))

/-- GLYPH.UPPER.E, code 0x45: the result is FONT_UPPER[4] (R123). -/
def execGlyphUpperE (s : State) : Result := .next (s.withAnswer (.glyph (Config.hw.fontUpper 4)))

/-- GLYPH.UPPER.F, code 0x46: the result is FONT_UPPER[5] (R123). -/
def execGlyphUpperF (s : State) : Result := .next (s.withAnswer (.glyph (Config.hw.fontUpper 5)))

/-- GLYPH.UPPER.G, code 0x47: the result is FONT_UPPER[6] (R123). -/
def execGlyphUpperG (s : State) : Result := .next (s.withAnswer (.glyph (Config.hw.fontUpper 6)))

/-- GLYPH.UPPER.H, code 0x48: the result is FONT_UPPER[7] (R123). -/
def execGlyphUpperH (s : State) : Result := .next (s.withAnswer (.glyph (Config.hw.fontUpper 7)))

/-- GLYPH.UPPER.I, code 0x49: the result is FONT_UPPER[8] (R123). -/
def execGlyphUpperI (s : State) : Result := .next (s.withAnswer (.glyph (Config.hw.fontUpper 8)))

/-- GLYPH.UPPER.J, code 0x4a: the result is FONT_UPPER[9] (R123). -/
def execGlyphUpperJ (s : State) : Result := .next (s.withAnswer (.glyph (Config.hw.fontUpper 9)))

/-- GLYPH.UPPER.K, code 0x4b: the result is FONT_UPPER[10] (R123). -/
def execGlyphUpperK (s : State) : Result := .next (s.withAnswer (.glyph (Config.hw.fontUpper 10)))

/-- GLYPH.UPPER.L, code 0x4c: the result is FONT_UPPER[11] (R123). -/
def execGlyphUpperL (s : State) : Result := .next (s.withAnswer (.glyph (Config.hw.fontUpper 11)))

/-- GLYPH.UPPER.M, code 0x4d: the result is FONT_UPPER[12] (R123). -/
def execGlyphUpperM (s : State) : Result := .next (s.withAnswer (.glyph (Config.hw.fontUpper 12)))

/-- GLYPH.UPPER.N, code 0x4e: the result is FONT_UPPER[13] (R123). -/
def execGlyphUpperN (s : State) : Result := .next (s.withAnswer (.glyph (Config.hw.fontUpper 13)))

/-- GLYPH.UPPER.O, code 0x4f: the result is FONT_UPPER[14] (R123). -/
def execGlyphUpperO (s : State) : Result := .next (s.withAnswer (.glyph (Config.hw.fontUpper 14)))

/-- GLYPH.UPPER.P, code 0x50: the result is FONT_UPPER[15] (R123). -/
def execGlyphUpperP (s : State) : Result := .next (s.withAnswer (.glyph (Config.hw.fontUpper 15)))

/-- GLYPH.UPPER.Q, code 0x51: the result is FONT_UPPER[16] (R123). -/
def execGlyphUpperQ (s : State) : Result := .next (s.withAnswer (.glyph (Config.hw.fontUpper 16)))

/-- GLYPH.UPPER.R, code 0x52: the result is FONT_UPPER[17] (R123). -/
def execGlyphUpperR (s : State) : Result := .next (s.withAnswer (.glyph (Config.hw.fontUpper 17)))

/-- GLYPH.UPPER.S, code 0x53: the result is FONT_UPPER[18] (R123). -/
def execGlyphUpperS (s : State) : Result := .next (s.withAnswer (.glyph (Config.hw.fontUpper 18)))

/-- GLYPH.UPPER.T, code 0x54: the result is FONT_UPPER[19] (R123). -/
def execGlyphUpperT (s : State) : Result := .next (s.withAnswer (.glyph (Config.hw.fontUpper 19)))

/-- GLYPH.UPPER.U, code 0x55: the result is FONT_UPPER[20] (R123). -/
def execGlyphUpperU (s : State) : Result := .next (s.withAnswer (.glyph (Config.hw.fontUpper 20)))

/-- GLYPH.UPPER.V, code 0x56: the result is FONT_UPPER[21] (R123). -/
def execGlyphUpperV (s : State) : Result := .next (s.withAnswer (.glyph (Config.hw.fontUpper 21)))

/-- GLYPH.UPPER.W, code 0x57: the result is FONT_UPPER[22] (R123). -/
def execGlyphUpperW (s : State) : Result := .next (s.withAnswer (.glyph (Config.hw.fontUpper 22)))

/-- GLYPH.UPPER.X, code 0x58: the result is FONT_UPPER[23] (R123). -/
def execGlyphUpperX (s : State) : Result := .next (s.withAnswer (.glyph (Config.hw.fontUpper 23)))

/-- GLYPH.UPPER.Y, code 0x59: the result is FONT_UPPER[24] (R123). -/
def execGlyphUpperY (s : State) : Result := .next (s.withAnswer (.glyph (Config.hw.fontUpper 24)))

/-- GLYPH.UPPER.Z, code 0x5a: the result is FONT_UPPER[25] (R123). -/
def execGlyphUpperZ (s : State) : Result := .next (s.withAnswer (.glyph (Config.hw.fontUpper 25)))

end Sys2Proof.Machine
end

