-- ==== Sys2Proof/Machine/HostOps.lean ====
section
/-! DEFINITION. The host's operations (43_host_interface R200 to R212) and the store record (30_encoding R99), each over a
configuration, and the six rows with this hardware's configuration. -/

namespace Sys2Proof.Machine

/-- INIT (R200): the stored message or the default, the scan state 0, 0, the idle levels of SCLK and STRB, phase BEGIN.
SDAT, SR, OUT, W, bitcnt and settlecnt keep their contents (R35). -/
def initMachine (c : Config) (s : State) : Result :=
  let m := loadRecord c s.store
  if validMsg c m then
    .next ({ ((({ s.install m with i := 0 }).driveSclk false).driveStrb false).toPhase .begin with started := true })
  else .refused .invalidMessage

/-- OFFER (R202): what the host presents to the next MCHECK; an invalid message is refused (R201). -/
def offerMessage (c : Config) (o : Option Message) (s : State) : Result :=
  match o with
  | none => .next { s with offer := none }
  | some m => if validMsg c m then .next { s with offer := some m } else .refused .invalidMessage

/-- STORE_SAVE (R205): its operand is a valid message. -/
def saveMessage (c : Config) (m : Message) (s : State) : Result :=
  if validMsg c m then .next { s with store := saveRecord s.store m } else .refused .invalidMessage

/-- The store that holds exactly the record with these bytes (R99). -/
def recordStore (len : Byte) (chars : List Byte) (term : Byte) : List Host.Cell :=
  storeWriteFrom [] 0 (len :: chars ++ [term])

/-- INIT (R200). -/
def execInit (s : State) : Result := initMachine Config.hw s

/-- OFFER (R202). -/
def execOffer (o : Option Message) (s : State) : Result := offerMessage Config.hw o s

/-- STORE_LOAD (R204): a function of the store; no state of the core changes. -/
def execStoreLoad (s : State) : Result := .next (s.withAnswer (.message (loadRecord Config.hw s.store)))

/-- STORE_SAVE (R205). -/
def execStoreSave (m : Message) (s : State) : Result := saveMessage Config.hw m s

/-- ACCUMULATE (R208). -/
def execAccumulate (s : State) : Result := .next (s.accumulate Config.hw)

/-- STOREREC (R99): the message that the record stands for, the default for an invalid one (R100, R204). -/
def execStorerec (len : Byte) (chars : List Byte) (term : Byte) (s : State) : Result :=
  .next (s.withAnswer (.message (loadRecord Config.hw (recordStore len chars term))))

end Sys2Proof.Machine
end

