-- ==== Sys2Proof/Machine/TxWord.lean ====
section
/-! DEFINITION. The rows TXWORD.D0 to TXWORD.D3: what the chain drives from a word with that digit address (42_display_chain R183,
R184, R186). The word reaches the wires when LATCHOUT has put it into OUT (R185); the rows say what it means there. -/

namespace Sys2Proof.Machine

/-- What a word drives: its address, its segments, the one enabled digit. -/
def driveOf (w : TxWord) : Answer := .drive (dselOf Config.hw w) (segOf Config.hw w) (digitEnOf (dselOf Config.hw w))

/-- The word with digit address `dsel` and segments `seg` (R95). -/
def txWord (dsel : DigitAddr) (seg : Segments) : TxWord := dsel ++ seg

/-- TXWORD.D0: the rightmost digit (R184, R186). -/
def execTxwordD0 (seg : Segments) (s : State) : Result := .next (s.withAnswer (driveOf (txWord 0 seg)))

/-- TXWORD.D1: the second digit from the right. -/
def execTxwordD1 (seg : Segments) (s : State) : Result := .next (s.withAnswer (driveOf (txWord 1 seg)))

/-- TXWORD.D2: the third digit from the right. -/
def execTxwordD2 (seg : Segments) (s : State) : Result := .next (s.withAnswer (driveOf (txWord 2 seg)))

/-- TXWORD.D3: the leftmost digit. -/
def execTxwordD3 (seg : Segments) (s : State) : Result := .next (s.withAnswer (driveOf (txWord 3 seg)))

end Sys2Proof.Machine
end

