-- ==== Sys2Proof/Syntax.lean ====
section
/-! DEFINITION. The operations and codes of spec/opcode_table.json, one constructor per row, in the table's order (30_encoding R104). -/

namespace Sys2Proof

/-- The formats of the table (R90, R104). CHAIN, FUNC and HOST are labels of the table only: their rows have no bit-level selector. -/
inductive Format where
  | char8 | txword | seq | chain | func | host | storerec
  deriving DecidableEq, Repr

/-- One row of the opcode table. -/
inductive Instr where
  /-- GLYPH.DIGIT.0 (R121): code 0x30. -/
  | glyphDigit0
  /-- GLYPH.DIGIT.1 (R121): code 0x31. -/
  | glyphDigit1
  /-- GLYPH.DIGIT.2 (R121): code 0x32. -/
  | glyphDigit2
  /-- GLYPH.DIGIT.3 (R121): code 0x33. -/
  | glyphDigit3
  /-- GLYPH.DIGIT.4 (R121): code 0x34. -/
  | glyphDigit4
  /-- GLYPH.DIGIT.5 (R121): code 0x35. -/
  | glyphDigit5
  /-- GLYPH.DIGIT.6 (R121): code 0x36. -/
  | glyphDigit6
  /-- GLYPH.DIGIT.7 (R121): code 0x37. -/
  | glyphDigit7
  /-- GLYPH.DIGIT.8 (R121): code 0x38. -/
  | glyphDigit8
  /-- GLYPH.DIGIT.9 (R121): code 0x39. -/
  | glyphDigit9
  /-- GLYPH.LOWER.a (R122): code 0x61. -/
  | glyphLowerA
  /-- GLYPH.LOWER.b (R122): code 0x62. -/
  | glyphLowerB
  /-- GLYPH.LOWER.c (R122): code 0x63. -/
  | glyphLowerC
  /-- GLYPH.LOWER.d (R122): code 0x64. -/
  | glyphLowerD
  /-- GLYPH.LOWER.e (R122): code 0x65. -/
  | glyphLowerE
  /-- GLYPH.LOWER.f (R122): code 0x66. -/
  | glyphLowerF
  /-- GLYPH.LOWER.g (R122): code 0x67. -/
  | glyphLowerG
  /-- GLYPH.LOWER.h (R122): code 0x68. -/
  | glyphLowerH
  /-- GLYPH.LOWER.i (R122): code 0x69. -/
  | glyphLowerI
  /-- GLYPH.LOWER.j (R122): code 0x6a. -/
  | glyphLowerJ
  /-- GLYPH.LOWER.k (R122): code 0x6b. -/
  | glyphLowerK
  /-- GLYPH.LOWER.l (R122): code 0x6c. -/
  | glyphLowerL
  /-- GLYPH.LOWER.m (R122): code 0x6d. -/
  | glyphLowerM
  /-- GLYPH.LOWER.n (R122): code 0x6e. -/
  | glyphLowerN
  /-- GLYPH.LOWER.o (R122): code 0x6f. -/
  | glyphLowerO
  /-- GLYPH.LOWER.p (R122): code 0x70. -/
  | glyphLowerP
  /-- GLYPH.LOWER.q (R122): code 0x71. -/
  | glyphLowerQ
  /-- GLYPH.LOWER.r (R122): code 0x72. -/
  | glyphLowerR
  /-- GLYPH.LOWER.s (R122): code 0x73. -/
  | glyphLowerS
  /-- GLYPH.LOWER.t (R122): code 0x74. -/
  | glyphLowerT
  /-- GLYPH.LOWER.u (R122): code 0x75. -/
  | glyphLowerU
  /-- GLYPH.LOWER.v (R122): code 0x76. -/
  | glyphLowerV
  /-- GLYPH.LOWER.w (R122): code 0x77. -/
  | glyphLowerW
  /-- GLYPH.LOWER.x (R122): code 0x78. -/
  | glyphLowerX
  /-- GLYPH.LOWER.y (R122): code 0x79. -/
  | glyphLowerY
  /-- GLYPH.LOWER.z (R122): code 0x7a. -/
  | glyphLowerZ
  /-- GLYPH.UPPER.A (R123): code 0x41. -/
  | glyphUpperA
  /-- GLYPH.UPPER.B (R123): code 0x42. -/
  | glyphUpperB
  /-- GLYPH.UPPER.C (R123): code 0x43. -/
  | glyphUpperC
  /-- GLYPH.UPPER.D (R123): code 0x44. -/
  | glyphUpperD
  /-- GLYPH.UPPER.E (R123): code 0x45. -/
  | glyphUpperE
  /-- GLYPH.UPPER.F (R123): code 0x46. -/
  | glyphUpperF
  /-- GLYPH.UPPER.G (R123): code 0x47. -/
  | glyphUpperG
  /-- GLYPH.UPPER.H (R123): code 0x48. -/
  | glyphUpperH
  /-- GLYPH.UPPER.I (R123): code 0x49. -/
  | glyphUpperI
  /-- GLYPH.UPPER.J (R123): code 0x4a. -/
  | glyphUpperJ
  /-- GLYPH.UPPER.K (R123): code 0x4b. -/
  | glyphUpperK
  /-- GLYPH.UPPER.L (R123): code 0x4c. -/
  | glyphUpperL
  /-- GLYPH.UPPER.M (R123): code 0x4d. -/
  | glyphUpperM
  /-- GLYPH.UPPER.N (R123): code 0x4e. -/
  | glyphUpperN
  /-- GLYPH.UPPER.O (R123): code 0x4f. -/
  | glyphUpperO
  /-- GLYPH.UPPER.P (R123): code 0x50. -/
  | glyphUpperP
  /-- GLYPH.UPPER.Q (R123): code 0x51. -/
  | glyphUpperQ
  /-- GLYPH.UPPER.R (R123): code 0x52. -/
  | glyphUpperR
  /-- GLYPH.UPPER.S (R123): code 0x53. -/
  | glyphUpperS
  /-- GLYPH.UPPER.T (R123): code 0x54. -/
  | glyphUpperT
  /-- GLYPH.UPPER.U (R123): code 0x55. -/
  | glyphUpperU
  /-- GLYPH.UPPER.V (R123): code 0x56. -/
  | glyphUpperV
  /-- GLYPH.UPPER.W (R123): code 0x57. -/
  | glyphUpperW
  /-- GLYPH.UPPER.X (R123): code 0x58. -/
  | glyphUpperX
  /-- GLYPH.UPPER.Y (R123): code 0x59. -/
  | glyphUpperY
  /-- GLYPH.UPPER.Z (R123): code 0x5a. -/
  | glyphUpperZ
  /-- GLYPH.PUNCT (R124: a code of the punctuation mapping). -/
  | glyphPunct (c : Byte)
  /-- GLYPH.BLANK (R125: a code of no table). -/
  | glyphBlank (c : Byte)
  /-- TXWORD.D0 (R95, R184: the word with digit address 0 (rightmost digit)). -/
  | txwordD0 (seg : Segments)
  /-- TXWORD.D1 (R95, R184: digit address 1). -/
  | txwordD1 (seg : Segments)
  /-- TXWORD.D2 (R95, R184: digit address 2). -/
  | txwordD2 (seg : Segments)
  /-- TXWORD.D3 (R95, R184: digit address 3 (leftmost digit)). -/
  | txwordD3 (seg : Segments)
  /-- MCHECK (R153: message check, phase CHECK). -/
  | mcheck
  /-- DBEGIN (R143: digit begin, phase BEGIN). -/
  | dbegin
  /-- BSET (R144: bit setup, phase SETUP). -/
  | bset
  /-- BRISE (R145: clock rise, phase RISE). -/
  | brise
  /-- BFALL (R146: clock fall, phase FALL). -/
  | bfall
  /-- DLATCH (R147: digit latch, phase LATCH). -/
  | dlatch
  /-- DSETTLE (R150: one time-unit of settle, phase SETTLE). -/
  | dsettle
  /-- FEND (R152: frame end, phase FRAMEEND). -/
  | fend
  /-- CHAIN.SHIFT (R181: the chain at a rising edge of SCLK). -/
  | chainShift
  /-- CHAIN.LATCHOUT (R182: the chain at a rising edge of STRB). -/
  | chainLatchout
  /-- TRANSLATE (R120: the glyph ROM lookup). -/
  | translate (c : Byte)
  /-- INDEX (R141: the message index). -/
  | index (j : Offset) (i : DigitAddr) (len : BitVec Params.source.lenW)
  /-- PACK (R142: the transmitted word). -/
  | pack (i : DigitAddr) (g : Glyph)
  /-- INIT (R200: the host ends reset). -/
  | init
  /-- OFFER (R202: the host presents a replacement, or none). -/
  | offer (o : Option Message)
  /-- STORE_LOAD (R204: the stored message or the default). -/
  | storeLoad
  /-- STORE_SAVE (R205: a message written to the store). -/
  | storeSave (m : Message)
  /-- ACCUMULATE (R208: the input channel builds a message). -/
  | accumulate
  /-- STOREREC (R99: a store record). -/
  | storerec (len : Byte) (chars : List Byte) (term : Byte)
  deriving DecidableEq, Repr

end Sys2Proof
end

