-- ==== Sys2Proof/Machine/Dispatch.lean ====
section
/-! DEFINITION. exec: one arm per row of the opcode table, each one direct call of that row's meaning. -/

namespace Sys2Proof.Machine

def exec (i : Instr) (s : State) : Host.Outcome State Fault Refusal :=
  match i with
  | .glyphDigit0 => Sys2Proof.Machine.execGlyphDigit0 s
  | .glyphDigit1 => Sys2Proof.Machine.execGlyphDigit1 s
  | .glyphDigit2 => Sys2Proof.Machine.execGlyphDigit2 s
  | .glyphDigit3 => Sys2Proof.Machine.execGlyphDigit3 s
  | .glyphDigit4 => Sys2Proof.Machine.execGlyphDigit4 s
  | .glyphDigit5 => Sys2Proof.Machine.execGlyphDigit5 s
  | .glyphDigit6 => Sys2Proof.Machine.execGlyphDigit6 s
  | .glyphDigit7 => Sys2Proof.Machine.execGlyphDigit7 s
  | .glyphDigit8 => Sys2Proof.Machine.execGlyphDigit8 s
  | .glyphDigit9 => Sys2Proof.Machine.execGlyphDigit9 s
  | .glyphLowerA => Sys2Proof.Machine.execGlyphLowerA s
  | .glyphLowerB => Sys2Proof.Machine.execGlyphLowerB s
  | .glyphLowerC => Sys2Proof.Machine.execGlyphLowerC s
  | .glyphLowerD => Sys2Proof.Machine.execGlyphLowerD s
  | .glyphLowerE => Sys2Proof.Machine.execGlyphLowerE s
  | .glyphLowerF => Sys2Proof.Machine.execGlyphLowerF s
  | .glyphLowerG => Sys2Proof.Machine.execGlyphLowerG s
  | .glyphLowerH => Sys2Proof.Machine.execGlyphLowerH s
  | .glyphLowerI => Sys2Proof.Machine.execGlyphLowerI s
  | .glyphLowerJ => Sys2Proof.Machine.execGlyphLowerJ s
  | .glyphLowerK => Sys2Proof.Machine.execGlyphLowerK s
  | .glyphLowerL => Sys2Proof.Machine.execGlyphLowerL s
  | .glyphLowerM => Sys2Proof.Machine.execGlyphLowerM s
  | .glyphLowerN => Sys2Proof.Machine.execGlyphLowerN s
  | .glyphLowerO => Sys2Proof.Machine.execGlyphLowerO s
  | .glyphLowerP => Sys2Proof.Machine.execGlyphLowerP s
  | .glyphLowerQ => Sys2Proof.Machine.execGlyphLowerQ s
  | .glyphLowerR => Sys2Proof.Machine.execGlyphLowerR s
  | .glyphLowerS => Sys2Proof.Machine.execGlyphLowerS s
  | .glyphLowerT => Sys2Proof.Machine.execGlyphLowerT s
  | .glyphLowerU => Sys2Proof.Machine.execGlyphLowerU s
  | .glyphLowerV => Sys2Proof.Machine.execGlyphLowerV s
  | .glyphLowerW => Sys2Proof.Machine.execGlyphLowerW s
  | .glyphLowerX => Sys2Proof.Machine.execGlyphLowerX s
  | .glyphLowerY => Sys2Proof.Machine.execGlyphLowerY s
  | .glyphLowerZ => Sys2Proof.Machine.execGlyphLowerZ s
  | .glyphUpperA => Sys2Proof.Machine.execGlyphUpperA s
  | .glyphUpperB => Sys2Proof.Machine.execGlyphUpperB s
  | .glyphUpperC => Sys2Proof.Machine.execGlyphUpperC s
  | .glyphUpperD => Sys2Proof.Machine.execGlyphUpperD s
  | .glyphUpperE => Sys2Proof.Machine.execGlyphUpperE s
  | .glyphUpperF => Sys2Proof.Machine.execGlyphUpperF s
  | .glyphUpperG => Sys2Proof.Machine.execGlyphUpperG s
  | .glyphUpperH => Sys2Proof.Machine.execGlyphUpperH s
  | .glyphUpperI => Sys2Proof.Machine.execGlyphUpperI s
  | .glyphUpperJ => Sys2Proof.Machine.execGlyphUpperJ s
  | .glyphUpperK => Sys2Proof.Machine.execGlyphUpperK s
  | .glyphUpperL => Sys2Proof.Machine.execGlyphUpperL s
  | .glyphUpperM => Sys2Proof.Machine.execGlyphUpperM s
  | .glyphUpperN => Sys2Proof.Machine.execGlyphUpperN s
  | .glyphUpperO => Sys2Proof.Machine.execGlyphUpperO s
  | .glyphUpperP => Sys2Proof.Machine.execGlyphUpperP s
  | .glyphUpperQ => Sys2Proof.Machine.execGlyphUpperQ s
  | .glyphUpperR => Sys2Proof.Machine.execGlyphUpperR s
  | .glyphUpperS => Sys2Proof.Machine.execGlyphUpperS s
  | .glyphUpperT => Sys2Proof.Machine.execGlyphUpperT s
  | .glyphUpperU => Sys2Proof.Machine.execGlyphUpperU s
  | .glyphUpperV => Sys2Proof.Machine.execGlyphUpperV s
  | .glyphUpperW => Sys2Proof.Machine.execGlyphUpperW s
  | .glyphUpperX => Sys2Proof.Machine.execGlyphUpperX s
  | .glyphUpperY => Sys2Proof.Machine.execGlyphUpperY s
  | .glyphUpperZ => Sys2Proof.Machine.execGlyphUpperZ s
  | .glyphPunct c => Sys2Proof.Machine.execGlyphPunct c s
  | .glyphBlank c => Sys2Proof.Machine.execGlyphBlank c s
  | .txwordD0 seg => Sys2Proof.Machine.execTxwordD0 seg s
  | .txwordD1 seg => Sys2Proof.Machine.execTxwordD1 seg s
  | .txwordD2 seg => Sys2Proof.Machine.execTxwordD2 seg s
  | .txwordD3 seg => Sys2Proof.Machine.execTxwordD3 seg s
  | .mcheck => Sys2Proof.Machine.execMcheck s
  | .dbegin => Sys2Proof.Machine.execDbegin s
  | .bset => Sys2Proof.Machine.execBset s
  | .brise => Sys2Proof.Machine.execBrise s
  | .bfall => Sys2Proof.Machine.execBfall s
  | .dlatch => Sys2Proof.Machine.execDlatch s
  | .dsettle => Sys2Proof.Machine.execDsettle s
  | .fend => Sys2Proof.Machine.execFend s
  | .chainShift => Sys2Proof.Machine.execChainShift s
  | .chainLatchout => Sys2Proof.Machine.execChainLatchout s
  | .translate c => Sys2Proof.Machine.execTranslate c s
  | .index j d len => Sys2Proof.Machine.execIndex j d len s
  | .pack d g => Sys2Proof.Machine.execPack d g s
  | .init => Sys2Proof.Machine.execInit s
  | .offer o => Sys2Proof.Machine.execOffer o s
  | .storeLoad => Sys2Proof.Machine.execStoreLoad s
  | .storeSave m => Sys2Proof.Machine.execStoreSave m s
  | .accumulate => Sys2Proof.Machine.execAccumulate s
  | .storerec len chars term => Sys2Proof.Machine.execStorerec len chars term s

end Sys2Proof.Machine
end

