-- ==== Sys2Proof/WellFormed.lean ====
section
/-! DEFINITION. Which operands a row admits (30_encoding R91, R93, R98, R99; 41 R141; 43 R201). -/

namespace Sys2Proof

open Machine

/-- A code of the punctuation mapping (R93). -/
def inPunct (c : Config) (ch : Byte) : Bool := c.punct.any fun e => e.1 == ch

/-- The operands of the row are ones the spec gives it. Every row not named admits every operand of its type. -/
def wellFormedWith (c : Config) : Instr → Bool
  | .glyphPunct ch => !isAlnum ch && inPunct c ch
  | .glyphBlank ch => !isAlnum ch && !inPunct c ch
  | .index j _ len => decide (c.msgMin ≤ len.toNat) && decide (len.toNat ≤ c.msgMax) && decide (j.toNat < len.toNat)
  | .offer (some m) => validMsg c m
  | .storeSave m => validMsg c m
  | .storerec len chars _ =>
    decide (c.msgMin ≤ len.toNat) && decide (len.toNat ≤ c.msgMax) && decide (chars.length = len.toNat) &&
      !chars.any isTerminator
  | .offer none => true
  | .glyphDigit0 | .glyphDigit1 | .glyphDigit2 | .glyphDigit3 | .glyphDigit4 | .glyphDigit5 | .glyphDigit6 => true
  | .glyphDigit7 | .glyphDigit8 | .glyphDigit9 | .glyphLowerA | .glyphLowerB | .glyphLowerC | .glyphLowerD => true
  | .glyphLowerE | .glyphLowerF | .glyphLowerG | .glyphLowerH | .glyphLowerI | .glyphLowerJ | .glyphLowerK => true
  | .glyphLowerL | .glyphLowerM | .glyphLowerN | .glyphLowerO | .glyphLowerP | .glyphLowerQ | .glyphLowerR => true
  | .glyphLowerS | .glyphLowerT | .glyphLowerU | .glyphLowerV | .glyphLowerW | .glyphLowerX | .glyphLowerY => true
  | .glyphLowerZ | .glyphUpperA | .glyphUpperB | .glyphUpperC | .glyphUpperD | .glyphUpperE | .glyphUpperF => true
  | .glyphUpperG | .glyphUpperH | .glyphUpperI | .glyphUpperJ | .glyphUpperK | .glyphUpperL | .glyphUpperM => true
  | .glyphUpperN | .glyphUpperO | .glyphUpperP | .glyphUpperQ | .glyphUpperR | .glyphUpperS | .glyphUpperT => true
  | .glyphUpperU | .glyphUpperV | .glyphUpperW | .glyphUpperX | .glyphUpperY | .glyphUpperZ | .txwordD0 _ => true
  | .txwordD1 _ | .txwordD2 _ | .txwordD3 _ | .mcheck | .dbegin | .bset | .brise => true
  | .bfall | .dlatch | .dsettle | .fend | .chainShift | .chainLatchout | .translate _ => true
  | .pack _ _ | .init | .storeLoad | .accumulate => true

/-- Well-formedness for this hardware. -/
def wellFormed (i : Instr) : Bool := wellFormedWith Config.hw i

end Sys2Proof
end

