-- ==== Sys2Proof/Decode.lean ====
section
/-! DEFINITION. The decoders and the encoder, from the formats of 30_encoding (R90 to R105). Each format has its own decoder: the
glyph ROM decodes CHAR8, the chain TXWORD, the sequencer its phase, the host STOREREC. The formats share code points, so a word
is decoded as a word OF A FORMAT (log entry 13). -/

namespace Sys2Proof

open Machine

/-- Why bytes are not a word of their format. -/
inductive DecodeError where
  /-- fewer bytes than the format has -/
  | truncated
  /-- a phase has three bits (R90, R103) -/
  | badPhase
  /-- a record's length is in 1..128 (R99) -/
  | badLength
  /-- 0x00 or 0xFF among a record's characters (R99) -/
  | badChar
  /-- CHAIN, FUNC and HOST rows have no bit-level selector (R104) -/
  | noSelector
  deriving DecidableEq, Repr

/-- What a decoder answers: the row and the bytes after its word, or the reason why there is none. -/
inductive Decoded where
  | ok (i : Instr) (rest : List Byte)
  | bad (e : DecodeError)
  deriving DecidableEq, Repr

/-! ### CHAR8 (R91, R104 a) -/

/-- The row of entry k of the digit table. -/
def digitRow (k : Nat) : Instr :=
  match k with
  | 0 => .glyphDigit0
  | 1 => .glyphDigit1
  | 2 => .glyphDigit2
  | 3 => .glyphDigit3
  | 4 => .glyphDigit4
  | 5 => .glyphDigit5
  | 6 => .glyphDigit6
  | 7 => .glyphDigit7
  | 8 => .glyphDigit8
  | _ => .glyphDigit9

/-- The row of entry k of the lowercase table. -/
def lowerRow (k : Nat) : Instr :=
  match k with
  | 0 => .glyphLowerA
  | 1 => .glyphLowerB
  | 2 => .glyphLowerC
  | 3 => .glyphLowerD
  | 4 => .glyphLowerE
  | 5 => .glyphLowerF
  | 6 => .glyphLowerG
  | 7 => .glyphLowerH
  | 8 => .glyphLowerI
  | 9 => .glyphLowerJ
  | 10 => .glyphLowerK
  | 11 => .glyphLowerL
  | 12 => .glyphLowerM
  | 13 => .glyphLowerN
  | 14 => .glyphLowerO
  | 15 => .glyphLowerP
  | 16 => .glyphLowerQ
  | 17 => .glyphLowerR
  | 18 => .glyphLowerS
  | 19 => .glyphLowerT
  | 20 => .glyphLowerU
  | 21 => .glyphLowerV
  | 22 => .glyphLowerW
  | 23 => .glyphLowerX
  | 24 => .glyphLowerY
  | _ => .glyphLowerZ

/-- The row of entry k of the uppercase table. -/
def upperRow (k : Nat) : Instr :=
  match k with
  | 0 => .glyphUpperA
  | 1 => .glyphUpperB
  | 2 => .glyphUpperC
  | 3 => .glyphUpperD
  | 4 => .glyphUpperE
  | 5 => .glyphUpperF
  | 6 => .glyphUpperG
  | 7 => .glyphUpperH
  | 8 => .glyphUpperI
  | 9 => .glyphUpperJ
  | 10 => .glyphUpperK
  | 11 => .glyphUpperL
  | 12 => .glyphUpperM
  | 13 => .glyphUpperN
  | 14 => .glyphUpperO
  | 15 => .glyphUpperP
  | 16 => .glyphUpperQ
  | 17 => .glyphUpperR
  | 18 => .glyphUpperS
  | 19 => .glyphUpperT
  | 20 => .glyphUpperU
  | 21 => .glyphUpperV
  | 22 => .glyphUpperW
  | 23 => .glyphUpperX
  | 24 => .glyphUpperY
  | _ => .glyphUpperZ

/-- The row of a character code: total, since every code is legal (R91, R100). -/
def charRow (c : Config) (ch : Byte) : Instr :=
  if isDigit ch then digitRow (ch.toNat - 0x30)
  else if isLower ch then lowerRow (ch.toNat - 0x61)
  else if isUpper ch then upperRow (ch.toNat - 0x41)
  else if inPunct c ch then .glyphPunct ch
  else .glyphBlank ch

/-! ### TXWORD (R95, R96) -/

/-- The row of a transmitted word: its address bits choose it, its segment bits are the operand. -/
def wordRow (c : Config) (w : TxWord) : Instr :=
  match (dselOf c w).toNat with
  | 0 => .txwordD0 (segOf c w)
  | 1 => .txwordD1 (segOf c w)
  | 2 => .txwordD2 (segOf c w)
  | _ => .txwordD3 (segOf c w)

/-! ### SEQ (R103) -/

/-- The code of a phase. -/
def phaseCode : Phase → Byte
  | .check => 0
  | .begin => 1
  | .setup => 2
  | .rise => 3
  | .fall => 4
  | .latch => 5
  | .settle => 6
  | .frameEnd => 7

/-- The phase of a code, from its three low bits. -/
def phaseOf (b : Byte) : Phase :=
  match b.toNat % 8 with
  | 0 => .check
  | 1 => .begin
  | 2 => .setup
  | 3 => .rise
  | 4 => .fall
  | 5 => .latch
  | 6 => .settle
  | _ => .frameEnd

/-- The operation that a phase runs (R25, R103). -/
def phaseRow : Phase → Instr
  | .check => .mcheck
  | .begin => .dbegin
  | .setup => .bset
  | .rise => .brise
  | .fall => .bfall
  | .latch => .dlatch
  | .settle => .dsettle
  | .frameEnd => .fend

/-! ### STOREREC (R99) -/

/-- A record: the length byte gives its extent (R101). Any byte may stand at offset L + 1, where a save writes 0x00: a wrong
terminator does not make the record invalid (R100, R204, D20). -/
def decodeRecord (c : Config) (len : Byte) (bytes : List Byte) : Decoded :=
  if len.toNat < c.msgMin || c.msgMax < len.toNat then .bad .badLength
  else if bytes.length < len.toNat + 1 then .bad .truncated
  else if (bytes.take len.toNat).any isTerminator then .bad .badChar
  else match bytes.drop len.toNat with
    | [] => .bad .truncated
    | term :: rest => .ok (.storerec len (bytes.take len.toNat) term) rest

/-! ### The decoder -/

/-- Decode the first word of format `f` in `bytes`. A transmitted word has its high byte first (R65). -/
def decodeWith (c : Config) (f : Format) (bytes : List Byte) : Decoded :=
  match f, bytes with
  | .char8, ch :: rest => .ok (charRow c ch) rest
  | .txword, hi :: lo :: rest => .ok (wordRow c (hi ++ lo)) rest
  | .seq, b :: rest => if b.toNat < 8 then .ok (phaseRow (phaseOf b)) rest else .bad .badPhase
  | .storerec, len :: rest => decodeRecord c len rest
  | .chain, _ => .bad .noSelector
  | .func, _ => .bad .noSelector
  | .host, _ => .bad .noSelector
  | _, _ => .bad .truncated

/-- The decoder of this hardware. -/
def decode (f : Format) (bytes : List Byte) : Decoded := decodeWith Config.hw f bytes

/-! ### The encoder -/

/-- The two bytes of a transmitted word, the high byte first (R65, R96). -/
def wordBytes (w : TxWord) : List Byte := [w.extractLsb' 8 8, w.extractLsb' 0 8]

/-- The format of a row (R104). -/
def formatOf : Instr → Format
  | .glyphDigit0 | .glyphDigit1 | .glyphDigit2 | .glyphDigit3 | .glyphDigit4 | .glyphDigit5 | .glyphDigit6 => .char8
  | .glyphDigit7 | .glyphDigit8 | .glyphDigit9 | .glyphLowerA | .glyphLowerB | .glyphLowerC | .glyphLowerD => .char8
  | .glyphLowerE | .glyphLowerF | .glyphLowerG | .glyphLowerH | .glyphLowerI | .glyphLowerJ | .glyphLowerK => .char8
  | .glyphLowerL | .glyphLowerM | .glyphLowerN | .glyphLowerO | .glyphLowerP | .glyphLowerQ | .glyphLowerR => .char8
  | .glyphLowerS | .glyphLowerT | .glyphLowerU | .glyphLowerV | .glyphLowerW | .glyphLowerX | .glyphLowerY => .char8
  | .glyphLowerZ | .glyphUpperA | .glyphUpperB | .glyphUpperC | .glyphUpperD | .glyphUpperE | .glyphUpperF => .char8
  | .glyphUpperG | .glyphUpperH | .glyphUpperI | .glyphUpperJ | .glyphUpperK | .glyphUpperL | .glyphUpperM => .char8
  | .glyphUpperN | .glyphUpperO | .glyphUpperP | .glyphUpperQ | .glyphUpperR | .glyphUpperS | .glyphUpperT => .char8
  | .glyphUpperU | .glyphUpperV | .glyphUpperW | .glyphUpperX | .glyphUpperY | .glyphUpperZ | .glyphPunct _ => .char8
  | .glyphBlank _ => .char8
  | .txwordD0 _ | .txwordD1 _ | .txwordD2 _ | .txwordD3 _ => .txword
  | .mcheck | .dbegin | .bset | .brise | .bfall | .dlatch | .dsettle => .seq
  | .fend => .seq
  | .chainShift | .chainLatchout => .chain
  | .translate _ | .index _ _ _ | .pack _ _ => .func
  | .init | .offer _ | .storeLoad | .storeSave _ | .accumulate => .host
  | .storerec _ _ _ => .storerec

/-- The bytes of a row's word; none for a row without a bit-level selector. -/
def encode : Instr → List Byte
  | .glyphDigit0 => [0x30]
  | .glyphDigit1 => [0x31]
  | .glyphDigit2 => [0x32]
  | .glyphDigit3 => [0x33]
  | .glyphDigit4 => [0x34]
  | .glyphDigit5 => [0x35]
  | .glyphDigit6 => [0x36]
  | .glyphDigit7 => [0x37]
  | .glyphDigit8 => [0x38]
  | .glyphDigit9 => [0x39]
  | .glyphLowerA => [0x61]
  | .glyphLowerB => [0x62]
  | .glyphLowerC => [0x63]
  | .glyphLowerD => [0x64]
  | .glyphLowerE => [0x65]
  | .glyphLowerF => [0x66]
  | .glyphLowerG => [0x67]
  | .glyphLowerH => [0x68]
  | .glyphLowerI => [0x69]
  | .glyphLowerJ => [0x6a]
  | .glyphLowerK => [0x6b]
  | .glyphLowerL => [0x6c]
  | .glyphLowerM => [0x6d]
  | .glyphLowerN => [0x6e]
  | .glyphLowerO => [0x6f]
  | .glyphLowerP => [0x70]
  | .glyphLowerQ => [0x71]
  | .glyphLowerR => [0x72]
  | .glyphLowerS => [0x73]
  | .glyphLowerT => [0x74]
  | .glyphLowerU => [0x75]
  | .glyphLowerV => [0x76]
  | .glyphLowerW => [0x77]
  | .glyphLowerX => [0x78]
  | .glyphLowerY => [0x79]
  | .glyphLowerZ => [0x7a]
  | .glyphUpperA => [0x41]
  | .glyphUpperB => [0x42]
  | .glyphUpperC => [0x43]
  | .glyphUpperD => [0x44]
  | .glyphUpperE => [0x45]
  | .glyphUpperF => [0x46]
  | .glyphUpperG => [0x47]
  | .glyphUpperH => [0x48]
  | .glyphUpperI => [0x49]
  | .glyphUpperJ => [0x4a]
  | .glyphUpperK => [0x4b]
  | .glyphUpperL => [0x4c]
  | .glyphUpperM => [0x4d]
  | .glyphUpperN => [0x4e]
  | .glyphUpperO => [0x4f]
  | .glyphUpperP => [0x50]
  | .glyphUpperQ => [0x51]
  | .glyphUpperR => [0x52]
  | .glyphUpperS => [0x53]
  | .glyphUpperT => [0x54]
  | .glyphUpperU => [0x55]
  | .glyphUpperV => [0x56]
  | .glyphUpperW => [0x57]
  | .glyphUpperX => [0x58]
  | .glyphUpperY => [0x59]
  | .glyphUpperZ => [0x5a]
  | .glyphPunct c => [c]
  | .glyphBlank c => [c]
  | .txwordD0 seg => wordBytes (txWord 0 seg)
  | .txwordD1 seg => wordBytes (txWord 1 seg)
  | .txwordD2 seg => wordBytes (txWord 2 seg)
  | .txwordD3 seg => wordBytes (txWord 3 seg)
  | .mcheck => [phaseCode .check]
  | .dbegin => [phaseCode .begin]
  | .bset => [phaseCode .setup]
  | .brise => [phaseCode .rise]
  | .bfall => [phaseCode .fall]
  | .dlatch => [phaseCode .latch]
  | .dsettle => [phaseCode .settle]
  | .fend => [phaseCode .frameEnd]
  | .storerec len chars term => len :: chars ++ [term]
  | .chainShift | .chainLatchout | .translate _ | .index _ _ _ | .pack _ _ => []
  | .init | .offer _ | .storeLoad | .storeSave _ | .accumulate => []

/-! ### The numbering of the opcode table -/

/-- A row of format CHAR8 for which the table's reader gives more than 8 bits: a code whose table index k is 8 or more, with
nothing above its 8 bits or with the reader's bit k (98_reader; log entry 13). -/
def wideCharWord (w : Nat) : Bool :=
  let ch : Byte := BitVec.ofNat _ (w % 256)
  let k := if isDigit ch then ch.toNat - 0x30 else if isLower ch then ch.toNat - 0x61
    else if isUpper ch then ch.toNat - 0x41 else 0
  decide (8 ≤ k) && (decide (w / 256 = 0) || decide (w / 256 = 2 ^ (k - 8)))

/-- Which format a word of `nbits` bits of the table is read in. A phase code and a character code both have 8 bits there: the
eight codes below 8 are read as phases, since the table gives no row of its own to a control character. -/
def tableFormat (nbits w : Nat) : Format :=
  if nbits ≤ Config.hw.charW then (if w < 8 then .seq else .char8)
  else if nbits ≤ Config.hw.glyphW then (if wideCharWord w then .char8 else .txword)
  else .char8

/-- The bytes of a word as its format's decoder takes them: a transmitted word with its high byte first, any other one byte. -/
def tableBytes (nbits w : Nat) : List Byte :=
  match tableFormat nbits w with
  | .txword => wordBytes (BitVec.ofNat _ w)
  | _ => [BitVec.ofNat _ w]

/-- The row that the decoder reads from a word of the table. -/
def decodeTableWord (nbits w : Nat) : Option Instr :=
  match decode (tableFormat nbits w) (tableBytes nbits w) with
  | .ok i _ => some i
  | .bad _ => none

end Sys2Proof
end

