-- ==== Sys2Proof/Machine/Fetch.lean ====
section
/-! DEFINITION. What the machine runs next: the host's INIT first (10_state R35, 70 R260), then for ever the operation that
`phase` selects (41 R140); and the placing of a table word where it runs in the very next step (log entry 14). -/

namespace Sys2Proof.Machine

/-- The next operation. Before INIT it is INIT; afterwards it is what the phase code decodes to. -/
def fetch (s : State) : Decoded := if s.started then decode .seq [phaseCode s.phase] else .ok .init []

/-- `s` at the start of phase `p`, with the lines, counters and buffer as the rules have them there (R33). -/
def placePhase (s : State) (p : Phase) : State :=
  { s with
    started := true
    phase := p
    msg := if validMsg Config.hw s.msg then s.msg else [0x20]
    j := 0
    loops := 0
    i := 0
    sclk := decide (p = .fall)
    strb := decide (p = .settle)
    bitcnt := if p = .latch then 15 else 0
    settlecnt := if p = .settle then 0 else s.settlecnt }

/-- `s` about to begin the digit whose character is `ch`: DBEGIN fetches it and the glyph ROM decodes it (R78, R143). -/
def placeChar (s : State) (ch : Byte) : State := { placePhase s .begin with msg := [ch] }

/-- `s` about to latch the word `w`: DLATCH puts it into OUT and the chain decodes it (R147, R184). -/
def placeWord (s : State) (w : TxWord) : State := { placePhase s .latch with sr := w }

/-- `s` with the word of a table row placed where it is decoded next (the numbering of `tableFormat`). -/
def placeTableWord (s : State) (nbits w : Nat) : State :=
  match tableFormat nbits w with
  | .seq => placePhase s (phaseOf (BitVec.ofNat _ w))
  | .txword => placeWord s (BitVec.ofNat _ w)
  | _ => placeChar s (BitVec.ofNat _ w)

end Sys2Proof.Machine
end

