-- ==== Sys2Proof/Machine/Step.lean ====
section
/-! DEFINITION. One step of the machine: fetch, decode, exec. -/

namespace Sys2Proof.Machine

/-- One step (D1: the atomic step is one operation). -/
def step (s : State) : Host.Outcome State Fault Refusal :=
  match fetch s with
  | .ok i _ => exec i s
  | .bad _ => .refused .undecodable

/-- `s` with a table row's word stored where the next step decodes it. -/
def State.withFetchWord (s : State) (nbits w : Nat) : State := placeTableWord s nbits w

end Sys2Proof.Machine
end

