-- ==== Sys2Proof/Safety.lean ====
section
/-! DEFINITION. The terms in which claims about the machine are made: the invariants of 10_state R33, the invariant that every
step keeps, the line events (00_scope R13), and what a run is. -/

namespace Sys2Proof.Machine

/-- The ranges of `len`, `j` and `loops` (R33, the first three bullets). -/
abbrev State.InRanges (c : Config) (s : State) : Prop :=
  c.msgMin ≤ s.len ∧ s.len ≤ c.msgMax ∧ s.j.toNat < s.len ∧ s.loops.toNat < c.frameThreshold

/-- The invariants of R33, word for word. -/
abbrev State.SpecInvariants (c : Config) (s : State) : Prop :=
  s.InRanges c ∧
  (s.i.toNat ≤ c.ndigits - 1 ∧ (s.phase = .check ∨ s.phase = .frameEnd → s.i = 0)) ∧
  s.bitcnt.toNat ≤ c.glyphW - 1 ∧
  (s.phase ≠ .fall → s.sclk = false) ∧
  (s.phase = .setup ∨ s.phase = .rise ∨ s.phase = .fall ∨ s.phase = .latch → s.strb = false) ∧
  (s.phase = .settle → s.strb = true)

/-- What the precondition of the operation that `phase` selects asks of the lines and counters (R143 to R153), with what R33 adds. -/
def State.readyForPhase (c : Config) (s : State) : Bool :=
  match s.phase with
  | .check => !s.sclk && decide (s.i = 0)
  | .begin => !s.sclk
  | .setup => !s.sclk && !s.strb
  | .rise => !s.sclk && !s.strb
  | .fall => s.sclk && !s.strb
  | .latch => !s.sclk && !s.strb && decide (s.bitcnt.toNat = c.glyphW - 1)
  | .settle => !s.sclk && s.strb && decide (s.settlecnt.toNat < c.settleUnits)
  | .frameEnd => !s.sclk && decide (s.i = 0)

/-- The host's duties towards the state: the store in canonical form, an offer only of a valid message (R201, R203). -/
abbrev State.HostOk (c : Config) (s : State) : Prop := storeWf s.store = true ∧ s.offer.all (validMsg c) = true

/-- The invariant of the machine: the host's duties always, the ranges and the preconditions from INIT on. It holds after
power-on, every step keeps it, and no state that meets it is stuck. -/
abbrev State.Inv (c : Config) (s : State) : Prop :=
  s.HostOk c ∧ (s.started = true → s.InRanges c ∧ s.readyForPhase c = true)

/-- A state in the middle of a run: INIT is behind it and the invariant holds. -/
abbrev State.Running (c : Config) (s : State) : Prop := s.Inv c ∧ s.started = true

/-- The character that digit position `d` shows: `msg[(j + 3 - d) mod len]` (R141, R143, R151). -/
def State.charAt (s : State) (d : DigitAddr) : Byte := s.msg.getD ((s.j.toNat + 3 - d.toNat) % s.len) 0

/-- The word of digit position `d`: PACK(d, translate(msg[INDEX(j, d, len)])) (R155). -/
def State.wordFor (s : State) (d : DigitAddr) : TxWord := packWord Config.hw d (translate Config.hw (s.charAt d))

/-- No replacement comes at the next `n` checks: nothing is offered, and what the channel brings to them is empty, which is ignored
(R210). It is the premise "no replacement" of R157 and R158; what comes at later checks is free. -/
abbrev State.NoReplacement (n : Nat) (s : State) : Prop := s.offer = none ∧ ∀ burst ∈ s.inputs.take n, burst = []

/-- The state once the word of the current digit has been sent and latched, 50 operations after its DBEGIN (R155). -/
def State.delivered (s : State) : State :=
  { s with
    w := s.wordFor s.i
    sdat := (s.wordFor s.i).getLsbD 0
    sclk := false
    strb := true
    sr := s.wordFor s.i
    out := s.wordFor s.i
    bitcnt := 15
    settlecnt := 0
    phase := .settle }

/-- The state after the settle time of that digit, 56 operations after its DBEGIN (R150, R154). -/
def State.afterDigit (s : State) : State :=
  { s.delivered with
    settlecnt := 5
    i := s.i + 1
    phase := if s.i = 3 then .frameEnd else .begin }

/-- The eight engine operations (R103). -/
def engineRows : List Instr := [.mcheck, .dbegin, .bset, .brise, .bfall, .dlatch, .dsettle, .fend]

/-- One of the three output lines (R26). -/
inductive Line where
  | sdat | sclk | strb
  deriving DecidableEq, Repr

/-- The level of a line. -/
def State.level (s : State) : Line → Bool
  | .sdat => s.sdat
  | .sclk => s.sclk
  | .strb => s.strb

/-- The line events between two states: the lines whose level changes, with the new level (R13). -/
def lineEvents (s t : State) : List (Line × Bool) :=
  ([.sdat, .sclk, .strb].filter fun l => s.level l != t.level l).map fun l => (l, t.level l)

/-- `n` steps lead from `s` to `t`. -/
abbrev State.Reaches (s : State) (n : Nat) (t : State) : Prop := Host.Core.run Sys2Proof.core n s = .next t

end Sys2Proof.Machine
end

