-- ==== Sys2Proof/Certificates/Slice0/Obligations.lean ====
section
/-! DEFINITION. The statements for the provers. Each docstring names the rules of spec/ it formalises. A statement about `exec`
gives the whole next state, `{ s with … }`, so it is the frame as well: every field not named keeps its value. The fields `answer`,
`inputs`, `offer` and `started` are the model's own and no state of the spec (log entries 4, 7 and 3); the result of a row stands in
`answer`. -/

open Sys2Proof Sys2Proof.Machine

/-! ### Encoding -/

/-- Every well-formed row with a bit-level selector is read back from its own word, whatever follows it (R90, R91, R95, R99, R103). -/
def Obligations.EncodedRowsDecodeToThemselves : Prop :=
  ∀ (i : Instr) (rest : List Byte), wellFormed i = true →
    (formatOf i = .char8 ∨ formatOf i = .txword ∨ formatOf i = .seq ∨ formatOf i = .storerec) →
    decode (formatOf i) (encode i ++ rest) = .ok i rest

/-- What a decoder answers is a well-formed row of its own format, and its word is exactly the bytes that were read. -/
def Obligations.DecodedRowsEncodeToTheBytesRead : Prop :=
  ∀ (f : Format) (bytes rest : List Byte) (i : Instr), decode f bytes = .ok i rest →
    formatOf i = f ∧ wellFormed i = true ∧ bytes = encode i ++ rest

/-- No character code, phase code or transmitted word is illegal (R100); a record is invalid when its length is 0 or above 128
or one of its characters is 0x00 or 0xFF, and whatever its last byte is it is not invalid otherwise (R99, R100, D20); the other
formats have no bit-level selector (R104). -/
def Obligations.OnlyRecordsHaveInvalidEncodings : Prop :=
  (∀ (ch : Byte) (rest : List Byte), ∃ i, decode .char8 (ch :: rest) = .ok i rest) ∧
  (∀ (hi lo : Byte) (rest : List Byte), ∃ i, decode .txword (hi :: lo :: rest) = .ok i rest) ∧
  (∀ (b : Byte) (rest : List Byte), b.toNat < 8 → ∃ i ∈ engineRows, decode .seq (b :: rest) = .ok i rest) ∧
  (∀ (len : Byte) (chars rest : List Byte) (term : Byte), chars.length = len.toNat →
    ((len.toNat = 0 ∨ 128 < len.toNat) → decode .storerec (len :: chars ++ term :: rest) = .bad .badLength) ∧
    (1 ≤ len.toNat → len.toNat ≤ 128 → (0x00 ∈ chars ∨ 0xFF ∈ chars) →
      decode .storerec (len :: chars ++ term :: rest) = .bad .badChar) ∧
    (1 ≤ len.toNat → len.toNat ≤ 128 → 0x00 ∉ chars → 0xFF ∉ chars →
      decode .storerec (len :: chars ++ term :: rest) = .ok (.storerec len chars term) rest)) ∧
  ∀ bytes : List Byte, decode .chain bytes = .bad .noSelector ∧ decode .func bytes = .bad .noSelector ∧
    decode .host bytes = .bad .noSelector

/-- Words written out from the spec's encodings: '7', 'i', 'D' and BEL (R91), the word 0x6043 on the wire (R95, R65), the codes
of two phases (R103), the record of "Hi" (R99) and the same with a wrong terminator (D20). -/
def Obligations.WrittenWordsDecode : Prop :=
  decode .char8 [0b00110111] = .ok .glyphDigit7 [] ∧
  decode .char8 [0b01101001] = .ok .glyphLowerI [] ∧
  decode .char8 [0b01000100] = .ok .glyphUpperD [] ∧
  decode .char8 [0b00000111] = .ok (.glyphBlank 0b00000111) [] ∧
  decode .txword [0b01100000, 0b01000011] = .ok (.txwordD1 0b10000001000011) [] ∧
  decode .seq [0b00000101] = .ok .dlatch [] ∧
  decode .seq [0b00000111] = .ok .fend [] ∧
  decode .storerec [0x02, 0x48, 0x69, 0x00] = .ok (.storerec 0x02 [0x48, 0x69] 0x00) [] ∧
  decode .storerec [0x02, 0x48, 0x69, 0x55] = .ok (.storerec 0x02 [0x48, 0x69] 0x55) []

/-! ### The glyph ROM -/

/-- GLYPH.DIGIT.0 to GLYPH.DIGIT.9 (R121). -/
def Obligations.DigitRowsAnswerTheDigitTable : Prop :=
  (∀ k : Fin 10, decode .char8 [BitVec.ofNat 8 (0x30 + k.val)] = .ok (digitRow k.val) [] ∧
    translate Config.hw (BitVec.ofNat 8 (0x30 + k.val)) = Config.hw.fontDigit k ∧
    ∀ s : State, exec (digitRow k.val) s = .next { s with answer := .glyph (Config.hw.fontDigit k) }) ∧
  ∀ ch : Byte, (∃ k : Fin 10, decode .char8 [ch] = .ok (digitRow k.val) []) ↔ 0x30 ≤ ch.toNat ∧ ch.toNat ≤ 0x39

/-- GLYPH.LOWER.a to GLYPH.LOWER.z (R122). -/
def Obligations.LowerRowsAnswerTheLowercaseTable : Prop :=
  (∀ k : Fin 26, decode .char8 [BitVec.ofNat 8 (0x61 + k.val)] = .ok (lowerRow k.val) [] ∧
    translate Config.hw (BitVec.ofNat 8 (0x61 + k.val)) = Config.hw.fontLower k ∧
    ∀ s : State, exec (lowerRow k.val) s = .next { s with answer := .glyph (Config.hw.fontLower k) }) ∧
  ∀ ch : Byte, (∃ k : Fin 26, decode .char8 [ch] = .ok (lowerRow k.val) []) ↔ 0x61 ≤ ch.toNat ∧ ch.toNat ≤ 0x7A

/-- GLYPH.UPPER.A to GLYPH.UPPER.Z (R123). -/
def Obligations.UpperRowsAnswerTheUppercaseTable : Prop :=
  (∀ k : Fin 26, decode .char8 [BitVec.ofNat 8 (0x41 + k.val)] = .ok (upperRow k.val) [] ∧
    translate Config.hw (BitVec.ofNat 8 (0x41 + k.val)) = Config.hw.fontUpper k ∧
    ∀ s : State, exec (upperRow k.val) s = .next { s with answer := .glyph (Config.hw.fontUpper k) }) ∧
  ∀ ch : Byte, (∃ k : Fin 26, decode .char8 [ch] = .ok (upperRow k.val) []) ↔ 0x41 ≤ ch.toNat ∧ ch.toNat ≤ 0x5A

/-- GLYPH.PUNCT (R124): the domain is 32 codes, and every one of them gives its own entry of the punctuation mapping. -/
def Obligations.PunctRowAnswersItsOwnEntry : Prop :=
  Config.hw.punct.length = 32 ∧ (Config.hw.punct.map Prod.fst).Nodup ∧
  ∀ e ∈ Config.hw.punct, decode .char8 [e.1] = .ok (.glyphPunct e.1) [] ∧ translate Config.hw e.1 = e.2 ∧
    ∀ s : State, exec (.glyphPunct e.1) s = .next { s with answer := .glyph e.2 }

/-- GLYPH.BLANK (R125): a code of no table is blank, and every control character is such a code (R93). -/
def Obligations.CodesOfNoTableAreBlank : Prop :=
  (∀ ch : Byte, isDigit ch = false → isLower ch = false → isUpper ch = false → ch ∉ Config.hw.punct.map Prod.fst →
    decode .char8 [ch] = .ok (.glyphBlank ch) [] ∧ translate Config.hw ch = 0x0000 ∧
    ∀ s : State, exec (.glyphBlank ch) s = .next { s with answer := .glyph 0x0000 }) ∧
  ∀ ch : Byte, (ch.toNat ≤ 0x1F ∨ ch.toNat = 0x7F) →
    decode .char8 [ch] = .ok (.glyphBlank ch) [] ∧ translate Config.hw ch = 0x0000

/-- TRANSLATE (R120): total, no effect but its answer; the row that a code decodes to answers the same glyph, and so does the
glyph ROM read as a memory at that code (R61, R105). -/
def Obligations.CharRowsAgreeWithTranslate : Prop :=
  ∀ (ch : Byte) (s : State),
    exec (.translate ch) s = .next { s with answer := .glyph (translate Config.hw ch) } ∧
    (romImage Config.hw)[ch.toNat]? = some (translate Config.hw ch) ∧
    ∃ i, decode .char8 [ch] = .ok i [] ∧ exec i s = exec (.translate ch) s

/-- The four domains are pairwise disjoint (R126). -/
def Obligations.CharClassesAreDisjoint : Prop :=
  ∀ ch : Byte,
    ((isDigit ch = true → isLower ch = false ∧ isUpper ch = false ∧ ch ∉ Config.hw.punct.map Prod.fst) ∧
     (isLower ch = true → isUpper ch = false ∧ ch ∉ Config.hw.punct.map Prod.fst) ∧
     (isUpper ch = true → ch ∉ Config.hw.punct.map Prod.fst))

/-- The image of the glyph ROM has 256 entries; 94 codes have a font entry, and at least 162 entries are 0x0000 (R61, R91, R105, R128). -/
def Obligations.NinetyFourCodesHaveAFontEntry : Prop :=
  (romImage Config.hw).length = 256 ∧
  ((List.range 256).filter fun n => decide (charRow Config.hw (BitVec.ofNat 8 n) ≠ .glyphBlank (BitVec.ofNat 8 n))).length = 94 ∧
  162 ≤ ((romImage Config.hw).filter fun g => decide (g = 0x0000)).length

/-! ### INDEX, PACK and the transmitted word -/

/-- INDEX (R98, R141): (j + 3 - i) mod len in the natural numbers. For len = 0 the function is undefined and has no step (R141); the
name of that stop is log entry 11's. -/
def Obligations.IndexRowAnswersTheMessageIndex : Prop :=
  ∀ (j : BitVec 7) (d : BitVec 2) (len : BitVec 8) (s : State),
    (1 ≤ len.toNat →
      exec (.index j d len) s = .next { s with answer := .index ((j.toNat + 3 - d.toNat) % len.toNat) } ∧
      (j.toNat + 3 - d.toNat) % len.toNat < len.toNat) ∧
    (len.toNat = 0 → exec (.index j d len) s = .fault .stuckLength)

/-- PACK (R97, R142): the carry out of the high byte is lost; without reserved bits the word is (i << 14) + g; with them the
address is (g[15:14] + i) mod 4. -/
def Obligations.PackRowAddsTheDigitAddress : Prop :=
  ∀ (d : BitVec 2) (g : Glyph) (s : State),
    exec (.pack d g) s = .next { s with answer := .word (packWord Config.hw d g) } ∧
    (packWord Config.hw d g).toNat = (g.toNat / 256 + d.toNat * 64) % 256 * 256 + g.toNat % 256 ∧
    (g.toNat ≤ 0x3FFF → (packWord Config.hw d g).toNat = d.toNat * 2 ^ 14 + g.toNat) ∧
    dselOf Config.hw (packWord Config.hw d g) = g.extractLsb' 14 2 + d ∧
    segOf Config.hw (packWord Config.hw d g) = segOf Config.hw g

/-- TXWORD.D0 to TXWORD.D3: the address, the segments and the one enabled digit that the word drives once it is in OUT (R95, R183,
R184). The spec gives these rows a word and no operation: that such a row answers what its word would drive, and writes neither OUT
nor anything else, is the model's choice and no rule of the spec (log entry 4). -/
def Obligations.TxwordRowsDriveOneDigit : Prop :=
  ∀ (seg : BitVec 14) (s : State),
    exec (.txwordD0 seg) s = .next { s with answer := .drive 0 seg 0b0001 } ∧
    exec (.txwordD1 seg) s = .next { s with answer := .drive 1 seg 0b0010 } ∧
    exec (.txwordD2 seg) s = .next { s with answer := .drive 2 seg 0b0100 } ∧
    exec (.txwordD3 seg) s = .next { s with answer := .drive 3 seg 0b1000 }

/-- The digit select (R184): DSEL is OUT[15:14], digit k is enabled exactly when DSEL = k, so exactly one of the four is, and only
the enabled digit shows SEG. -/
def Obligations.OutEnablesExactlyOneDigit : Prop :=
  ∀ s : State,
    s.dsel.toNat = s.out.toNat / 2 ^ 14 ∧ s.dsel.toNat < 4 ∧
    (∀ k, k < 4 → (s.digitEn.getLsbD k = true ↔ s.dsel.toNat = k)) ∧
    ∀ d k, d < 4 → k < 14 → (s.lit d k = true ↔ s.dsel.toNat = d ∧ s.seg.getLsbD k = true)

/-- The segment lines (R183): SEG is OUT[13:0], and bit k at 1 lights segment k of the enabled digit. -/
def Obligations.OutDrivesTheSegmentLines : Prop :=
  ∀ s : State,
    s.seg.toNat = s.out.toNat % 2 ^ 14 ∧
    ∀ k, k < 14 → (s.lit s.dsel.toNat k = true ↔ s.out.getLsbD k = true)

/-! ### The engine's operations: each gives the whole next state, in the operation's own phase and wherever R33 holds.
R33 gives the preconditions of the rules: in SETUP SCLK and STRB are 0, in RISE SCLK is 0, in LATCH both are 0, in SETTLE STRB is
1 and SCLK 0, in FRAMEEND and CHECK i is 0. -/

/-- DBEGIN (R143). -/
def Obligations.DbeginLoadsTheWordOfTheDigit : Prop :=
  ∀ s : State, s.SpecInvariants Config.hw → s.phase = .begin →
    exec .dbegin s = .next { s with
      w := packWord Config.hw s.i (translate Config.hw (s.charAt s.i)), strb := false, bitcnt := 0, phase := .setup } ∧
    s.msg[(s.j.toNat + 3 - s.i.toNat) % s.len]? = some (s.charAt s.i)

/-- BSET (R144): SDAT <- W[15 - bitcnt]. -/
def Obligations.BsetPresentsTheNextBit : Prop :=
  ∀ s : State, s.SpecInvariants Config.hw → s.phase = .setup →
    exec .bset s = .next { s with sdat := s.w.getLsbD (15 - s.bitcnt.toNat), phase := .rise }

/-- BRISE (R145): SCLK rises, and in the same step the chain shifts SDAT in (R181). -/
def Obligations.BriseClocksTheBitIn : Prop :=
  ∀ s : State, s.SpecInvariants Config.hw → s.phase = .rise →
    exec .brise s = .next { s with sclk := true, sr := BitVec.ofNat 16 (s.sr.toNat * 2 + s.sdat.toNat), phase := .fall }

/-- BFALL (R146). -/
def Obligations.BfallCountsTheBit : Prop :=
  ∀ s : State, s.SpecInvariants Config.hw → s.phase = .fall → s.sclk = true →
    (s.bitcnt = 15 → exec .bfall s = .next { s with sclk := false, phase := .latch }) ∧
    (s.bitcnt ≠ 15 → exec .bfall s = .next { s with sclk := false, bitcnt := s.bitcnt + 1, phase := .setup })

/-- DLATCH (R147): STRB rises, and in the same step OUT <- SR (R182). -/
def Obligations.DlatchCommitsTheWord : Prop :=
  ∀ s : State, s.SpecInvariants Config.hw → s.phase = .latch → s.bitcnt = 15 →
    exec .dlatch s = .next { s with strb := true, out := s.sr, settlecnt := 0, phase := .settle }

/-- DSETTLE (R150). -/
def Obligations.DsettleCountsTheSettleTime : Prop :=
  ∀ s : State, s.SpecInvariants Config.hw → s.phase = .settle →
    (s.settlecnt.toNat < 5 → exec .dsettle s = .next { s with settlecnt := s.settlecnt + 1 }) ∧
    (s.settlecnt = 5 → s.i ≠ 3 → exec .dsettle s = .next { s with i := s.i + 1, phase := .begin }) ∧
    (s.settlecnt = 5 → s.i = 3 → exec .dsettle s = .next { s with i := 0, phase := .frameEnd })

/-- FEND (R152). -/
def Obligations.FendAdvancesTheWindow : Prop :=
  ∀ s : State, s.SpecInvariants Config.hw → s.phase = .frameEnd →
    (s.loops = 9 → ∃ j : BitVec 7, j.toNat = (s.j.toNat + 1) % s.len ∧
      exec .fend s = .next { s with loops := 0, j := j, phase := .check }) ∧
    (s.loops ≠ 9 → exec .fend s = .next { s with loops := s.loops + 1, phase := .check })

/-- MCHECK (R153): with no offer only `phase` changes in the machine; with one the buffer is replaced wholesale and j and loops
become 0. The host's side is the model's choice and no rule of the spec: that a check takes one element of the channel
(`inputs.drop 1`), that a pending offer leaves the channel unread (log entry 7), that the save falls into the step and that the
offer is then taken away (log entry 10). -/
def Obligations.McheckTakesTheOffer : Prop :=
  ∀ s : State, s.SpecInvariants Config.hw → s.phase = .check →
    (s.NoReplacement 1 → exec .mcheck s = .next { s with inputs := s.inputs.drop 1, phase := .begin }) ∧
    (∀ m : Message, s.offer = some m → 1 ≤ m.length → m.length ≤ 128 →
      exec .mcheck s = .next { s with
        msg := m, j := 0, loops := 0, store := saveRecord s.store m, offer := none, phase := .begin })

/-- MCHECK with input waiting in the channel (R208 to R211): an empty burst is ignored, one of 1 to 128 bytes is saved and
installed, and of a longer one at most 128 characters are. The model's choice are the channel's form and what a check leaves of it
(log entry 7), what a longer burst leaves (log entry 8) and the save within the step (log entry 10). -/
def Obligations.McheckReadsTheChannel : Prop :=
  ∀ (s : State) (burst : List Byte) (later : List (List Byte)),
    s.SpecInvariants Config.hw → s.phase = .check → s.offer = none → s.inputs = burst :: later →
    (burst = [] → exec .mcheck s = .next { s with inputs := later, phase := .begin }) ∧
    (1 ≤ burst.length → burst.length ≤ 128 → exec .mcheck s = .next { s with
      msg := burst, j := 0, loops := 0, store := saveRecord s.store burst, inputs := later, phase := .begin }) ∧
    (128 < burst.length → ∃ inputs : List (List Byte),
      exec .mcheck s = .next { s with inputs := inputs, phase := .begin } ∨
      ∃ m : Message, 1 ≤ m.length ∧ m.length ≤ 128 ∧ exec .mcheck s = .next { s with
        msg := m, j := 0, loops := 0, store := saveRecord s.store m, inputs := inputs, phase := .begin })

/-- An offer of length 0 or above 128 is refused at the boundary, by OFFER, by STORE_SAVE and by MCHECK (R201, R232). -/
def Obligations.InvalidMessagesAreRefused : Prop :=
  ∀ (s : State) (m : Message), (m.length = 0 ∨ 128 < m.length) →
    exec (.offer (some m)) s = .refused .invalidMessage ∧ exec (.storeSave m) s = .refused .invalidMessage ∧
    (s.SpecInvariants Config.hw → s.phase = .check → s.offer = some m → exec .mcheck s = .refused .invalidMessage)

/-- A state outside the invariants of R33 has no step: every engine operation is stuck in it, and so is the step (R69, R232 b). The
names of the stops are log entry 11's. -/
def Obligations.EngineIsStuckOutsideTheRanges : Prop :=
  (∀ (s : State) (i : Instr), i ∈ engineRows →
    (¬ s.SpecInvariants Config.hw → ∃ f, exec i s = .fault f) ∧
    ((s.len = 0 ∨ 128 < s.len) → exec i s = .fault .stuckLength) ∧
    (1 ≤ s.len → s.len ≤ 128 → s.len ≤ s.j.toNat → exec i s = .fault .stuckOffset) ∧
    (1 ≤ s.len → s.len ≤ 128 → s.j.toNat < s.len → 10 ≤ s.loops.toNat → exec i s = .fault .stuckLoops) ∧
    (s.InRanges Config.hw → (s.phase = .check ∨ s.phase = .frameEnd) → s.i ≠ 0 → exec i s = .fault .stuckDigit) ∧
    (s.InRanges Config.hw → s.phase ≠ .check → s.phase ≠ .frameEnd → s.phase ≠ .fall → s.sclk = true →
      exec i s = .fault .stuckClock) ∧
    (s.InRanges Config.hw → (s.phase = .fall ∨ s.sclk = false) →
      (s.phase = .setup ∨ s.phase = .rise ∨ s.phase = .fall ∨ s.phase = .latch) → s.strb = true → exec i s = .fault .stuckStrobe) ∧
    (s.InRanges Config.hw → s.sclk = false → s.phase = .settle → s.strb = false → exec i s = .fault .stuckStrobe)) ∧
  ∀ s : State, s.started = true → ¬ s.SpecInvariants Config.hw → ∃ f, step s = .fault f

/-- In a state that satisfies R33 only the operation that `phase` selects is enabled (R140, R237), and BFALL, DLATCH and DSETTLE
need what else their rules ask: SCLK = 1 (R146), 16 bits clocked (R147), settle time left (R25, R150). That the others are stuck,
and under which name, is log entries 11 and 22. -/
def Obligations.EngineIsStuckWithoutItsPrecondition : Prop :=
  ∀ s : State, s.SpecInvariants Config.hw →
    (∀ i ∈ engineRows, i ≠ phaseRow s.phase → exec i s = .fault .stuckPhase) ∧
    (s.phase = .fall → s.sclk = false → exec .bfall s = .fault .stuckClock) ∧
    (s.phase = .latch → s.bitcnt ≠ 15 → exec .dlatch s = .fault .stuckBits) ∧
    (s.phase = .settle → 6 ≤ s.settlecnt.toNat → exec .dsettle s = .fault .stuckSettle)

/-! ### The chain -/

/-- SHIFT (R181) and LATCHOUT (R182). -/
def Obligations.ChainRowsShiftAndLatch : Prop :=
  ∀ s : State,
    exec .chainLatchout s = .next { s with out := s.sr } ∧
    ∃ sr : BitVec 16, exec .chainShift s = .next { s with sr := sr } ∧ sr.getLsbD 0 = s.sdat ∧
      ∀ k, k < 15 → sr.getLsbD (k + 1) = s.sr.getLsbD k

/-- Sixteen shifts of a word, most significant bit first, leave that word in SR, whatever SR held before (R185, R66). -/
def Obligations.SixteenShiftsLoadTheWord : Prop :=
  ∀ (s : State) (w : TxWord),
    ((List.range 16).foldl (fun t n => (t.driveSdat (w.getLsbD (15 - n))).shift) s).sr = w

/-- In every step SR changes only by a shift at a rising edge of SCLK, and OUT only by a latch at a rising edge of STRB (R70, R189). -/
def Obligations.ChainActsOnRisingEdgesOnly : Prop :=
  ∀ s t : State, step s = .next t →
    t.sr = (if s.sclk = false ∧ t.sclk = true then BitVec.ofNat 16 (s.sr.toNat * 2 + s.sdat.toNat) else s.sr) ∧
    t.out = (if s.strb = false ∧ t.strb = true then s.sr else s.out)

/-! ### The host's operations and the store -/

/-- INIT (R200): it always completes, and leaves SDAT, SR, OUT, W, bitcnt and settlecnt as they were (R35). The
flag `started` that it sets is the model's (log entry 3). -/
def Obligations.InitInstallsTheStoredMessage : Prop :=
  ∀ s : State, ∃ m : Message, 1 ≤ m.length ∧ m.length ≤ 128 ∧
    exec .storeLoad s = .next { s with answer := .message m } ∧
    exec .init s = .next { s with
      msg := m, j := 0, loops := 0, i := 0, sclk := false, strb := false, phase := .begin, started := true }

/-- OFFER (R202): what the host presents to the next MCHECK, and nothing else. The field in which the offer stands
until then is the model's (log entry 7). -/
def Obligations.OfferIsPresentedToTheNextCheck : Prop :=
  ∀ s : State,
    exec (.offer none) s = .next { s with offer := none } ∧
    ∀ m : Message, 1 ≤ m.length → m.length ≤ 128 → exec (.offer (some m)) s = .next { s with offer := some m }

/-- STORE_LOAD (R204). -/
def Obligations.StoreLoadReadsTheRecordOrTheDefault : Prop :=
  ∀ (s : State) (len : Nat), len = (storeRead s.store 0).toNat →
    ((len < 1 ∨ 128 < len) → exec .storeLoad s = .next { s with answer := .message Config.hw.defaultMsg }) ∧
    (1 ≤ len → len ≤ 128 →
      ((∃ k, 1 ≤ k ∧ k ≤ len ∧ (storeRead s.store k = 0x00 ∨ storeRead s.store k = 0xFF)) →
        exec .storeLoad s = .next { s with answer := .message Config.hw.defaultMsg }) ∧
      ((∀ k, 1 ≤ k → k ≤ len → storeRead s.store k ≠ 0x00 ∧ storeRead s.store k ≠ 0xFF) →
        ∃ m : Message, m.length = len ∧ (∀ k, k < len → m[k]? = some (storeRead s.store (k + 1))) ∧
          exec .storeLoad s = .next { s with answer := .message m }))

/-- STORE_SAVE (R205): the length, the characters, the terminator; every other byte of the store keeps its value. -/
def Obligations.StoreSaveWritesTheRecord : Prop :=
  ∀ (s : State) (m : Message), storeWf s.store = true → 1 ≤ m.length → m.length ≤ 128 →
    ∃ mem : List Host.Cell, exec (.storeSave m) s = .next { s with store := mem } ∧ storeWf mem = true ∧
      (storeRead mem 0).toNat = m.length ∧ (∀ k, k < m.length → m[k]? = some (storeRead mem (k + 1))) ∧
      storeRead mem (m.length + 1) = 0x00 ∧ ∀ a, m.length + 1 < a → storeRead mem a = storeRead s.store a

/-- ACCUMULATE (R208 to R211): it changes nothing but the channel and the offer; an empty burst is ignored, one of 1 to 128 bytes
is offered as it is, and no offer has more than 128 characters. The form of the channel and what remains in it are the model's
(log entries 7 and 8). -/
def Obligations.AccumulateBuildsTheOffer : Prop :=
  ∀ s : State,
    (s.inputs = [] → exec .accumulate s = .next s) ∧
    ∀ (burst : List Byte) (later : List (List Byte)), s.inputs = burst :: later →
      (burst = [] → exec .accumulate s = .next { s with inputs := later }) ∧
      (1 ≤ burst.length → burst.length ≤ 128 →
        exec .accumulate s = .next { s with inputs := later, offer := some burst }) ∧
      (128 < burst.length → ∃ (inputs : List (List Byte)) (offer : Option Message),
        exec .accumulate s = .next { s with inputs := inputs, offer := offer } ∧
        (offer = s.offer ∨ ∃ m, offer = some m ∧ 1 ≤ m.length ∧ m.length ≤ 128))

/-- STOREREC (R99, R100): a legal record stands for its characters, an invalid one for the default message. That the row
answers a message is the model's choice, since the spec gives it no operation (log entry 17). -/
def Obligations.StorerecRowAnswersItsMessage : Prop :=
  ∀ (len : Byte) (chars : List Byte) (term : Byte) (s : State), chars.length = len.toNat →
    ((len.toNat = 0 ∨ 128 < len.toNat ∨ 0x00 ∈ chars ∨ 0xFF ∈ chars) →
      exec (.storerec len chars term) s = .next { s with answer := .message Config.hw.defaultMsg }) ∧
    (1 ≤ len.toNat → len.toNat ≤ 128 → 0x00 ∉ chars → 0xFF ∉ chars →
      exec (.storerec len chars term) s = .next { s with answer := .message chars })

/-- Round trip (R207): a valid message without 0x00 and 0xFF, saved, is the message after a power cycle and INIT.
What a power cycle leaves is log entry 15. -/
def Obligations.SavedMessageSurvivesAPowerCycle : Prop :=
  ∀ (s t : State) (m : Message), storeWf s.store = true → 1 ≤ m.length → m.length ≤ 128 → 0x00 ∉ m → 0xFF ∉ m →
    exec (.storeSave m) s = .next t → ∃ u : State, step t.powerCycle = .next u ∧ u.msg = m

/-- Torn writes (R206): after any part of a save, a load gives the default, or as many characters as the new message has, each of
them the new one or the byte that stood there before. What an interrupted save leaves is log entry 15. -/
def Obligations.TornSaveLoadsAMixtureOrTheDefault : Prop :=
  ∀ (mem : List Host.Cell) (m : Message) (n : Nat), storeWf mem = true → 1 ≤ m.length → m.length ≤ 128 → 1 ≤ n →
    loadRecord Config.hw (tornSave mem m n) = Config.hw.defaultMsg ∨
    ((loadRecord Config.hw (tornSave mem m n)).length = m.length ∧
      ∀ k, k < m.length → (loadRecord Config.hw (tornSave mem m n))[k]? = m[k]? ∨
        (loadRecord Config.hw (tornSave mem m n))[k]? = some (storeRead mem (k + 1)))

/-! ### One step -/

/-- A step runs what the phase code decodes to; before INIT it runs INIT (R35, R140, R260). The flag that tells the
two apart is the model's (log entry 3). -/
def Obligations.StepRunsTheDecodedOperation : Prop :=
  ∀ (s : State) (i : Instr),
    (s.started = true → decode .seq [phaseCode s.phase] = .ok i [] → step s = exec i s) ∧
    (s.started = false → step s = exec .init s)

/-- INIT runs once: after any step it has run, and from then on every step is an engine operation (R203). The
flag `started` that says so is the model's (log entry 3). -/
def Obligations.InitRunsOnceAndFirst : Prop :=
  ∀ (s t : State) (n : Nat), s.Reaches (n + 1) t → t.started = true ∧ ∃ i ∈ engineRows, step t = exec i t

/-- Power-on meets the invariant (the store is empty, nothing is offered, INIT has not run: log entries 1, 2, 3, 7, 9). -/
def Obligations.PowerOnMeetsTheInvariant : Prop := State.reset.Inv Config.hw ∧ State.reset.started = false

/-- Every step keeps the invariant. -/
def Obligations.StepKeepsTheInvariant : Prop :=
  ∀ s t : State, s.Inv Config.hw → step s = .next t → t.Inv Config.hw

/-- No state that meets the invariant is stuck, and none ends the run (R159). -/
def Obligations.NoInvariantStateIsStuck : Prop :=
  ∀ s : State, s.Inv Config.hw → ∃ t : State, step s = .next t ∧ t.Running Config.hw

/-- R33: its invariants hold in every state reachable from the state that INIT leaves. -/
def Obligations.ReachableStatesMeetTheSpecInvariants : Prop :=
  ∀ (s t : State) (n : Nat), s.HostOk Config.hw → s.started = false → s.Reaches (n + 1) t → t.SpecInvariants Config.hw

/-- No replacement inside a frame (R264): from a DBEGIN to the last DSETTLE no step changes the buffer or the scan state. R264 says no
more than this. That the buffer changes in no step but MCHECK is R71, R153 and R202; that a step that changes it leaves j, loops and i
at 0 and phase BEGIN is R71 and R153; that the store, too, changes in no step but MCHECK is R202 and R212 with D10, the spec's own
decision that the save is inside MCHECK, and log entry 10, by which the model has it in that one step. -/
def Obligations.BufferChangesOnlyBetweenFrames : Prop :=
  ∀ s t : State, s.Running Config.hw → step s = .next t →
    (s.phase ≠ .check → s.phase ≠ .frameEnd → t.msg = s.msg ∧ t.j = s.j ∧ t.loops = s.loops) ∧
    (s.phase ≠ .check → t.msg = s.msg ∧ t.store = s.store) ∧
    (t.msg ≠ s.msg → s.phase = .check ∧ t.phase = .begin ∧ t.i = 0 ∧ t.j = 0 ∧ t.loops = 0)

/-- Outside MCHECK the host can neither disturb the engine nor is it disturbed: what is typed, offered or stored makes no
difference to the step and is not changed by it (R233, R264). That the host's side is these three fields is log entry 7. -/
def Obligations.HostCannotActInsideAFrame : Prop :=
  ∀ (s t : State) (store : List Host.Cell) (inputs : List (List Byte)) (offer : Option Message),
    s.started = true → s.phase ≠ .check → step s = .next t →
    step { s with store := store, inputs := inputs, offer := offer } =
      .next { t with store := store, inputs := inputs, offer := offer }

/-- Every engine step makes at most one line event, and SDAT changes only in BSET, while SCLK is low (D1, R13, R266). -/
def Obligations.EachStepMakesAtMostOneLineEvent : Prop :=
  ∀ s t : State, s.Running Config.hw → step s = .next t →
    (lineEvents s t).length ≤ 1 ∧ (t.sdat ≠ s.sdat → s.phase = .setup ∧ s.sclk = false ∧ t.sclk = false)

/-- No edge of SCLK while STRB is 1, and OUT changes in no step but DLATCH (R149, R187, R267). -/
def Obligations.ClockEdgesFallWhileStrobeIsLow : Prop :=
  ∀ s t : State, s.Running Config.hw → step s = .next t →
    (s.sclk ≠ t.sclk → s.strb = false ∧ t.strb = false) ∧ (t.out ≠ s.out → s.phase = .latch) ∧
    (s.strb = false → t.strb = true → s.phase = .latch ∧ s.bitcnt = 15 ∧ s.sclk = false)

/-! ### Runs of steps, from every running state -/

/-- Delivery (R155): 50 operations after the start of a digit its word is in OUT, whatever SR and OUT held before, and the only
other changes are those of the digit's own operations. -/
def Obligations.DigitDeliversItsWord : Prop :=
  ∀ s : State, s.Running Config.hw → s.phase = .begin → s.Reaches 50 s.delivered

/-- DIGIT(i) is 56 operations (R154), and OUT keeps the word through its settle time and until the DLATCH of the next digit, which
is the 106th operation, or the 108th for the fourth digit, with FEND and MCHECK between (R155, R187). -/
def Obligations.DigitTakesFiftySixSteps : Prop :=
  ∀ s : State, s.Running Config.hw → s.phase = .begin →
    s.Reaches 56 s.afterDigit ∧
    ∀ (n : Nat) (t : State), 50 ≤ n → n < (if s.i = 3 then 108 else 106) → s.Reaches n t → t.out = s.wordFor s.i

/-- FRAME is 224 operations (R154): the four digits are latched in the order 0, 1, 2, 3, each with the word of its character
(R151), and the buffer, the scan state and the host's side do not change. -/
def Obligations.FrameShowsTheFourDigitsInOrder : Prop :=
  ∀ s : State, s.Running Config.hw → s.phase = .begin → s.i = 0 →
    (∀ d : BitVec 2, ∃ t : State, s.Reaches (56 * d.toNat + 50) t ∧ t.out = s.wordFor d ∧ t.i = d) ∧
    s.Reaches 224 { s with
      w := s.wordFor 3, sdat := (s.wordFor 3).getLsbD 0, sclk := false, strb := true, sr := s.wordFor 3, out := s.wordFor 3,
      bitcnt := 15, settlecnt := 5, i := 0, phase := .frameEnd }

/-- Read left to right, the display shows msg[j], msg[j+1], msg[j+2], msg[j+3], indices mod len (R151): in the frame that begins in
`s`, digit position d, counted from the right, is latched with the word of msg[(j + 3 - d) mod len]. With a glyph whose two high
bits are clear, exactly position d is lit, with that glyph's segments. -/
def Obligations.DisplayReadsTheWindowLeftToRight : Prop :=
  ∀ s : State, s.Running Config.hw → s.phase = .begin → s.i = 0 → ∀ d : BitVec 2, ∃ (t : State) (ch : Byte),
    s.Reaches (56 * d.toNat + 50) t ∧ s.msg[(s.j.toNat + 3 - d.toNat) % s.len]? = some ch ∧
    t.out = packWord Config.hw d (translate Config.hw ch) ∧
    ((translate Config.hw ch).toNat ≤ 0x3FFF →
      ∀ p k, p < 4 → k < 14 → (t.lit p k = true ↔ p = d.toNat ∧ (translate Config.hw ch).getLsbD k = true))

/-- Addressing (R190): a digit whose glyph has its two high bits clear is shown at its own position with its own segments; with
them set the address is (g[15:14] + i) mod 4. -/
def Obligations.WellFormedGlyphsReachTheirDigit : Prop :=
  ∀ s : State, s.Running Config.hw → s.phase = .begin → ∃ t : State, s.Reaches 50 t ∧
    t.dsel = (translate Config.hw (s.charAt s.i)).extractLsb' 14 2 + s.i ∧
    t.seg = segOf Config.hw (translate Config.hw (s.charAt s.i)) ∧
    ((translate Config.hw (s.charAt s.i)).toNat ≤ 0x3FFF → t.dsel = s.i ∧ t.digitEn.getLsbD s.i.toNat = true)

/-- One turn of the loop, FRAME, FEND and MCHECK, is 226 operations (R154); without a replacement at its check it only counts the
frame, and after the tenth it advances the window by one. What the channel brings to later checks is free. The clause on
`inputs`, one element of the channel per check, is the model's choice and no rule of the spec (log entry 7), and so is the form
in which the premise says that no replacement comes. -/
def Obligations.LoopTurnCountsOneFrame : Prop :=
  ∀ s : State, s.Running Config.hw → s.phase = .begin → s.i = 0 → s.NoReplacement 1 →
    ∃ t : State, s.Reaches 226 t ∧ t.Running Config.hw ∧ t.phase = .begin ∧ t.i = 0 ∧ t.msg = s.msg ∧ t.store = s.store ∧
      t.offer = none ∧ t.inputs = s.inputs.drop 1 ∧
      (s.loops ≠ 9 → t.loops = s.loops + 1 ∧ t.j = s.j) ∧
      (s.loops = 9 → t.loops = 0 ∧ t.j.toNat = (s.j.toNat + 1) % s.len)

/-- Cadence (R158): from loops = 0 and without a replacement at the ten checks, the first ten frames have the same j, and j
advances after the tenth. The form of the premise is the channel's, the model's choice (log entry 7). -/
def Obligations.WindowAdvancesOncePerTenFrames : Prop :=
  ∀ s : State, s.Running Config.hw → s.phase = .begin → s.i = 0 → s.NoReplacement 10 → s.loops = 0 →
    (∀ n, n < 10 → ∃ t : State, s.Reaches (226 * n) t ∧ t.phase = .begin ∧ t.j = s.j ∧ t.loops.toNat = n) ∧
    ∃ t : State, s.Reaches 2260 t ∧ t.phase = .begin ∧ t.loops = 0 ∧ t.j.toNat = (s.j.toNat + 1) % s.len

/-- Periodicity (R157): without a replacement at the 10 len checks, after len advances the scan state is back where it was. The form
of the premise is the channel's, the model's choice (log entry 7). -/
def Obligations.ScrollIsPeriodic : Prop :=
  ∀ s : State, s.Running Config.hw → s.phase = .begin → s.i = 0 → s.NoReplacement (10 * s.len) →
    ∃ t : State, s.Reaches (2260 * s.len) t ∧ t.phase = .begin ∧ t.i = 0 ∧ t.msg = s.msg ∧ t.j = s.j ∧ t.loops = s.loops

/-- Simultaneous events (R234): a replacement overrides what FEND has just written to j and loops. The host's side is the model's
choice and no rule of the spec: that a pending offer leaves the channel unread (`inputs` unchanged, log entry 7), that the save
falls into the step of MCHECK and that the offer is then taken away (`offer := none`, log entry 10). -/
def Obligations.ReplacementWinsOverTheFrameCounter : Prop :=
  ∀ (s : State) (m : Message), s.Running Config.hw → s.phase = .frameEnd → s.offer = some m →
    s.Reaches 2 { s with
      msg := m, j := 0, loops := 0, store := saveRecord s.store m, offer := none, phase := .begin }

/-- The first frame (R262): after power-on and INIT the first word latched is that of the character msg[3 mod len] at digit 0,
and before that DLATCH nothing changes OUT (R188). That the first step is INIT is log entry 3. -/
def Obligations.FirstWordAfterInit : Prop :=
  ∀ s : State, s.Inv Config.hw → s.started = false → ∃ (m : Message) (ch : Byte),
    exec .storeLoad s = .next { s with answer := .message m } ∧ m[3 % m.length]? = some ch ∧
    (∀ (n : Nat) (t : State), n ≤ 50 → s.Reaches n t → t.out = s.out) ∧
    ∃ t : State, s.Reaches 51 t ∧ t.msg = m ∧ t.out = packWord Config.hw 0 (translate Config.hw ch) ∧ t.phase = .settle
end

