-- ==== Sys2Proof/Laws/Config.lean ====
section
/-! SUPPORT. The fixed parameters of this hardware, and what is known of its open ones: no more than R8, R93 and R201 say. -/

namespace Sys2Proof

open Machine

@[simp] theorem Config.hw_nseg : Config.hw.nseg = 14 := rfl
@[simp] theorem Config.hw_addrW : Config.hw.addrW = 2 := rfl
@[simp] theorem Config.hw_charW : Config.hw.charW = 8 := rfl
@[simp] theorem Config.hw_nPunct : Config.hw.nPunct = 32 := rfl
@[simp] theorem Config.hw_ndigits : Config.hw.ndigits = 4 := rfl
@[simp] theorem Config.hw_glyphW : Config.hw.glyphW = 16 := rfl
@[simp] theorem Config.hw_msgMin : Config.hw.msgMin = 1 := rfl
@[simp] theorem Config.hw_msgMax : Config.hw.msgMax = 128 := rfl
@[simp] theorem Config.hw_settleUnits : Config.hw.settleUnits = 6 := rfl
@[simp] theorem Config.hw_frameThreshold : Config.hw.frameThreshold = 10 := rfl
@[simp] theorem Config.hw_blank : Config.hw.blank = 0 := rfl

/-- The stand-in meets what R93 asks of a punctuation mapping. -/
theorem punctStandIn_legal : punctLegal 32 punctStandIn = true := by decide

/-- This hardware's punctuation mapping is legal (R93, D18). -/
theorem Config.hw_punctLegal : punctLegal 32 Config.hw.punct = true := by
  show punctLegal 32 (Config.openPunct 32) = true
  unfold Config.openPunct
  split
  · assumption
  · exact punctStandIn_legal

/-- It has 32 entries, no code twice, no digit, letter or control character. -/
theorem Config.hw_punct_facts : Config.hw.punct.length = 32 ∧ (Config.hw.punct.map Prod.fst).Nodup ∧
    ∀ e ∈ Config.hw.punct, isAlnum e.1 = false ∧ isControl e.1 = false := by
  have h := Config.hw_punctLegal
  simp only [punctLegal, Bool.and_eq_true, decide_eq_true_eq, List.all_eq_true, Bool.not_eq_true'] at h
  exact ⟨h.1.1, h.1.2, h.2⟩

/-- The default message is valid (R8: a message of 1 to 128 characters). -/
theorem Config.hw_default_valid : validMsg Config.hw Config.hw.defaultMsg = true := by
  simp [validMsg]

@[simp] theorem validMsg_hw (m : Message) : validMsg Config.hw m = true ↔ 1 ≤ m.length ∧ m.length ≤ 128 := by
  simp [validMsg]

/-- The ranges of R33 in numbers. -/
theorem Machine.State.inRanges_hw (s : State) :
    s.InRanges Config.hw ↔ 1 ≤ s.len ∧ s.len ≤ 128 ∧ s.j.toNat < s.len ∧ s.loops.toNat < 10 := Iff.rfl

/-- Below the table's size, the entry is the table's. -/
theorem fontEntry_of_lt (c : Config) {n : Nat} (table : Fin n → Glyph) {k : Nat} (h : k < n) :
    fontEntry c table k = table ⟨k, h⟩ := dif_pos h

end Sys2Proof
end

