-- ==== Sys2Proof/Laws/State.lean ====
section
/-! SUPPORT. What the registers can hold, and what every named update of the state leaves in every field: one lemma per field per update. -/

namespace Sys2Proof.Machine

variable (s : State)

/-! ### The ranges that the widths of the registers give, in numbers -/

theorem State.j_lt : s.j.toNat < 128 := s.j.isLt
theorem State.loops_lt : s.loops.toNat < 16 := s.loops.isLt
theorem State.i_lt : s.i.toNat < 4 := s.i.isLt
theorem State.bitcnt_lt : s.bitcnt.toNat < 16 := s.bitcnt.isLt
theorem State.settlecnt_lt : s.settlecnt.toNat < 8 := s.settlecnt.isLt
theorem byte_lt (b : Byte) : b.toNat < 256 := b.isLt
theorem word_lt (w : TxWord) : w.toNat < 65536 := w.isLt

/-! ### State.install -/

@[simp] theorem State.install_msg (m : Message) : (s.install m).msg = m := rfl
@[simp] theorem State.install_j (m : Message) : (s.install m).j = 0 := rfl
@[simp] theorem State.install_loops (m : Message) : (s.install m).loops = 0 := rfl
@[simp] theorem State.install_i (m : Message) : (s.install m).i = s.i := rfl
@[simp] theorem State.install_phase (m : Message) : (s.install m).phase = s.phase := rfl
@[simp] theorem State.install_bitcnt (m : Message) : (s.install m).bitcnt = s.bitcnt := rfl
@[simp] theorem State.install_settlecnt (m : Message) : (s.install m).settlecnt = s.settlecnt := rfl
@[simp] theorem State.install_w (m : Message) : (s.install m).w = s.w := rfl
@[simp] theorem State.install_sdat (m : Message) : (s.install m).sdat = s.sdat := rfl
@[simp] theorem State.install_sclk (m : Message) : (s.install m).sclk = s.sclk := rfl
@[simp] theorem State.install_strb (m : Message) : (s.install m).strb = s.strb := rfl
@[simp] theorem State.install_sr (m : Message) : (s.install m).sr = s.sr := rfl
@[simp] theorem State.install_out (m : Message) : (s.install m).out = s.out := rfl
@[simp] theorem State.install_store (m : Message) : (s.install m).store = s.store := rfl
@[simp] theorem State.install_inputs (m : Message) : (s.install m).inputs = s.inputs := rfl
@[simp] theorem State.install_offer (m : Message) : (s.install m).offer = s.offer := rfl
@[simp] theorem State.install_started (m : Message) : (s.install m).started = s.started := rfl
@[simp] theorem State.install_answer (m : Message) : (s.install m).answer = s.answer := rfl
@[simp] theorem State.install_len (m : Message) : (s.install m).len = m.length := rfl

/-! ### State.shift -/

@[simp] theorem State.shift_msg : (s.shift).msg = s.msg := rfl
@[simp] theorem State.shift_j : (s.shift).j = s.j := rfl
@[simp] theorem State.shift_loops : (s.shift).loops = s.loops := rfl
@[simp] theorem State.shift_i : (s.shift).i = s.i := rfl
@[simp] theorem State.shift_phase : (s.shift).phase = s.phase := rfl
@[simp] theorem State.shift_bitcnt : (s.shift).bitcnt = s.bitcnt := rfl
@[simp] theorem State.shift_settlecnt : (s.shift).settlecnt = s.settlecnt := rfl
@[simp] theorem State.shift_w : (s.shift).w = s.w := rfl
@[simp] theorem State.shift_sdat : (s.shift).sdat = s.sdat := rfl
@[simp] theorem State.shift_sclk : (s.shift).sclk = s.sclk := rfl
@[simp] theorem State.shift_strb : (s.shift).strb = s.strb := rfl
@[simp] theorem State.shift_sr : (s.shift).sr = s.sr.extractLsb' 0 15 ++ BitVec.ofBool s.sdat := rfl
@[simp] theorem State.shift_out : (s.shift).out = s.out := rfl
@[simp] theorem State.shift_store : (s.shift).store = s.store := rfl
@[simp] theorem State.shift_inputs : (s.shift).inputs = s.inputs := rfl
@[simp] theorem State.shift_offer : (s.shift).offer = s.offer := rfl
@[simp] theorem State.shift_started : (s.shift).started = s.started := rfl
@[simp] theorem State.shift_answer : (s.shift).answer = s.answer := rfl
@[simp] theorem State.shift_len : (s.shift).len = s.len := rfl

/-! ### State.latchOut -/

@[simp] theorem State.latchOut_msg : (s.latchOut).msg = s.msg := rfl
@[simp] theorem State.latchOut_j : (s.latchOut).j = s.j := rfl
@[simp] theorem State.latchOut_loops : (s.latchOut).loops = s.loops := rfl
@[simp] theorem State.latchOut_i : (s.latchOut).i = s.i := rfl
@[simp] theorem State.latchOut_phase : (s.latchOut).phase = s.phase := rfl
@[simp] theorem State.latchOut_bitcnt : (s.latchOut).bitcnt = s.bitcnt := rfl
@[simp] theorem State.latchOut_settlecnt : (s.latchOut).settlecnt = s.settlecnt := rfl
@[simp] theorem State.latchOut_w : (s.latchOut).w = s.w := rfl
@[simp] theorem State.latchOut_sdat : (s.latchOut).sdat = s.sdat := rfl
@[simp] theorem State.latchOut_sclk : (s.latchOut).sclk = s.sclk := rfl
@[simp] theorem State.latchOut_strb : (s.latchOut).strb = s.strb := rfl
@[simp] theorem State.latchOut_sr : (s.latchOut).sr = s.sr := rfl
@[simp] theorem State.latchOut_out : (s.latchOut).out = s.sr := rfl
@[simp] theorem State.latchOut_store : (s.latchOut).store = s.store := rfl
@[simp] theorem State.latchOut_inputs : (s.latchOut).inputs = s.inputs := rfl
@[simp] theorem State.latchOut_offer : (s.latchOut).offer = s.offer := rfl
@[simp] theorem State.latchOut_started : (s.latchOut).started = s.started := rfl
@[simp] theorem State.latchOut_answer : (s.latchOut).answer = s.answer := rfl
@[simp] theorem State.latchOut_len : (s.latchOut).len = s.len := rfl

/-! ### State.driveSdat -/

@[simp] theorem State.driveSdat_msg (b : Bool) : (s.driveSdat b).msg = s.msg := rfl
@[simp] theorem State.driveSdat_j (b : Bool) : (s.driveSdat b).j = s.j := rfl
@[simp] theorem State.driveSdat_loops (b : Bool) : (s.driveSdat b).loops = s.loops := rfl
@[simp] theorem State.driveSdat_i (b : Bool) : (s.driveSdat b).i = s.i := rfl
@[simp] theorem State.driveSdat_phase (b : Bool) : (s.driveSdat b).phase = s.phase := rfl
@[simp] theorem State.driveSdat_bitcnt (b : Bool) : (s.driveSdat b).bitcnt = s.bitcnt := rfl
@[simp] theorem State.driveSdat_settlecnt (b : Bool) : (s.driveSdat b).settlecnt = s.settlecnt := rfl
@[simp] theorem State.driveSdat_w (b : Bool) : (s.driveSdat b).w = s.w := rfl
@[simp] theorem State.driveSdat_sdat (b : Bool) : (s.driveSdat b).sdat = b := rfl
@[simp] theorem State.driveSdat_sclk (b : Bool) : (s.driveSdat b).sclk = s.sclk := rfl
@[simp] theorem State.driveSdat_strb (b : Bool) : (s.driveSdat b).strb = s.strb := rfl
@[simp] theorem State.driveSdat_sr (b : Bool) : (s.driveSdat b).sr = s.sr := rfl
@[simp] theorem State.driveSdat_out (b : Bool) : (s.driveSdat b).out = s.out := rfl
@[simp] theorem State.driveSdat_store (b : Bool) : (s.driveSdat b).store = s.store := rfl
@[simp] theorem State.driveSdat_inputs (b : Bool) : (s.driveSdat b).inputs = s.inputs := rfl
@[simp] theorem State.driveSdat_offer (b : Bool) : (s.driveSdat b).offer = s.offer := rfl
@[simp] theorem State.driveSdat_started (b : Bool) : (s.driveSdat b).started = s.started := rfl
@[simp] theorem State.driveSdat_answer (b : Bool) : (s.driveSdat b).answer = s.answer := rfl
@[simp] theorem State.driveSdat_len (b : Bool) : (s.driveSdat b).len = s.len := rfl

/-! ### State.driveSclk -/

@[simp] theorem State.driveSclk_msg (b : Bool) : (s.driveSclk b).msg = s.msg := rfl
@[simp] theorem State.driveSclk_j (b : Bool) : (s.driveSclk b).j = s.j := rfl
@[simp] theorem State.driveSclk_loops (b : Bool) : (s.driveSclk b).loops = s.loops := rfl
@[simp] theorem State.driveSclk_i (b : Bool) : (s.driveSclk b).i = s.i := rfl
@[simp] theorem State.driveSclk_phase (b : Bool) : (s.driveSclk b).phase = s.phase := rfl
@[simp] theorem State.driveSclk_bitcnt (b : Bool) : (s.driveSclk b).bitcnt = s.bitcnt := rfl
@[simp] theorem State.driveSclk_settlecnt (b : Bool) : (s.driveSclk b).settlecnt = s.settlecnt := rfl
@[simp] theorem State.driveSclk_w (b : Bool) : (s.driveSclk b).w = s.w := rfl
@[simp] theorem State.driveSclk_sdat (b : Bool) : (s.driveSclk b).sdat = s.sdat := rfl
@[simp] theorem State.driveSclk_sclk (b : Bool) : (s.driveSclk b).sclk = b := rfl
@[simp] theorem State.driveSclk_strb (b : Bool) : (s.driveSclk b).strb = s.strb := rfl
@[simp] theorem State.driveSclk_sr (b : Bool) : (s.driveSclk b).sr = if b && !s.sclk then s.shift.sr else s.sr := rfl
@[simp] theorem State.driveSclk_out (b : Bool) : (s.driveSclk b).out = s.out := rfl
@[simp] theorem State.driveSclk_store (b : Bool) : (s.driveSclk b).store = s.store := rfl
@[simp] theorem State.driveSclk_inputs (b : Bool) : (s.driveSclk b).inputs = s.inputs := rfl
@[simp] theorem State.driveSclk_offer (b : Bool) : (s.driveSclk b).offer = s.offer := rfl
@[simp] theorem State.driveSclk_started (b : Bool) : (s.driveSclk b).started = s.started := rfl
@[simp] theorem State.driveSclk_answer (b : Bool) : (s.driveSclk b).answer = s.answer := rfl
@[simp] theorem State.driveSclk_len (b : Bool) : (s.driveSclk b).len = s.len := rfl

/-! ### State.driveStrb -/

@[simp] theorem State.driveStrb_msg (b : Bool) : (s.driveStrb b).msg = s.msg := rfl
@[simp] theorem State.driveStrb_j (b : Bool) : (s.driveStrb b).j = s.j := rfl
@[simp] theorem State.driveStrb_loops (b : Bool) : (s.driveStrb b).loops = s.loops := rfl
@[simp] theorem State.driveStrb_i (b : Bool) : (s.driveStrb b).i = s.i := rfl
@[simp] theorem State.driveStrb_phase (b : Bool) : (s.driveStrb b).phase = s.phase := rfl
@[simp] theorem State.driveStrb_bitcnt (b : Bool) : (s.driveStrb b).bitcnt = s.bitcnt := rfl
@[simp] theorem State.driveStrb_settlecnt (b : Bool) : (s.driveStrb b).settlecnt = s.settlecnt := rfl
@[simp] theorem State.driveStrb_w (b : Bool) : (s.driveStrb b).w = s.w := rfl
@[simp] theorem State.driveStrb_sdat (b : Bool) : (s.driveStrb b).sdat = s.sdat := rfl
@[simp] theorem State.driveStrb_sclk (b : Bool) : (s.driveStrb b).sclk = s.sclk := rfl
@[simp] theorem State.driveStrb_strb (b : Bool) : (s.driveStrb b).strb = b := rfl
@[simp] theorem State.driveStrb_sr (b : Bool) : (s.driveStrb b).sr = s.sr := rfl
@[simp] theorem State.driveStrb_out (b : Bool) : (s.driveStrb b).out = if b && !s.strb then s.sr else s.out := rfl
@[simp] theorem State.driveStrb_store (b : Bool) : (s.driveStrb b).store = s.store := rfl
@[simp] theorem State.driveStrb_inputs (b : Bool) : (s.driveStrb b).inputs = s.inputs := rfl
@[simp] theorem State.driveStrb_offer (b : Bool) : (s.driveStrb b).offer = s.offer := rfl
@[simp] theorem State.driveStrb_started (b : Bool) : (s.driveStrb b).started = s.started := rfl
@[simp] theorem State.driveStrb_answer (b : Bool) : (s.driveStrb b).answer = s.answer := rfl
@[simp] theorem State.driveStrb_len (b : Bool) : (s.driveStrb b).len = s.len := rfl

/-! ### State.toPhase -/

@[simp] theorem State.toPhase_msg (p : Phase) : (s.toPhase p).msg = s.msg := rfl
@[simp] theorem State.toPhase_j (p : Phase) : (s.toPhase p).j = s.j := rfl
@[simp] theorem State.toPhase_loops (p : Phase) : (s.toPhase p).loops = s.loops := rfl
@[simp] theorem State.toPhase_i (p : Phase) : (s.toPhase p).i = s.i := rfl
@[simp] theorem State.toPhase_phase (p : Phase) : (s.toPhase p).phase = p := rfl
@[simp] theorem State.toPhase_bitcnt (p : Phase) : (s.toPhase p).bitcnt = s.bitcnt := rfl
@[simp] theorem State.toPhase_settlecnt (p : Phase) : (s.toPhase p).settlecnt = s.settlecnt := rfl
@[simp] theorem State.toPhase_w (p : Phase) : (s.toPhase p).w = s.w := rfl
@[simp] theorem State.toPhase_sdat (p : Phase) : (s.toPhase p).sdat = s.sdat := rfl
@[simp] theorem State.toPhase_sclk (p : Phase) : (s.toPhase p).sclk = s.sclk := rfl
@[simp] theorem State.toPhase_strb (p : Phase) : (s.toPhase p).strb = s.strb := rfl
@[simp] theorem State.toPhase_sr (p : Phase) : (s.toPhase p).sr = s.sr := rfl
@[simp] theorem State.toPhase_out (p : Phase) : (s.toPhase p).out = s.out := rfl
@[simp] theorem State.toPhase_store (p : Phase) : (s.toPhase p).store = s.store := rfl
@[simp] theorem State.toPhase_inputs (p : Phase) : (s.toPhase p).inputs = s.inputs := rfl
@[simp] theorem State.toPhase_offer (p : Phase) : (s.toPhase p).offer = s.offer := rfl
@[simp] theorem State.toPhase_started (p : Phase) : (s.toPhase p).started = s.started := rfl
@[simp] theorem State.toPhase_answer (p : Phase) : (s.toPhase p).answer = s.answer := rfl
@[simp] theorem State.toPhase_len (p : Phase) : (s.toPhase p).len = s.len := rfl

/-! ### State.withAnswer -/

@[simp] theorem State.withAnswer_msg (a : Answer) : (s.withAnswer a).msg = s.msg := rfl
@[simp] theorem State.withAnswer_j (a : Answer) : (s.withAnswer a).j = s.j := rfl
@[simp] theorem State.withAnswer_loops (a : Answer) : (s.withAnswer a).loops = s.loops := rfl
@[simp] theorem State.withAnswer_i (a : Answer) : (s.withAnswer a).i = s.i := rfl
@[simp] theorem State.withAnswer_phase (a : Answer) : (s.withAnswer a).phase = s.phase := rfl
@[simp] theorem State.withAnswer_bitcnt (a : Answer) : (s.withAnswer a).bitcnt = s.bitcnt := rfl
@[simp] theorem State.withAnswer_settlecnt (a : Answer) : (s.withAnswer a).settlecnt = s.settlecnt := rfl
@[simp] theorem State.withAnswer_w (a : Answer) : (s.withAnswer a).w = s.w := rfl
@[simp] theorem State.withAnswer_sdat (a : Answer) : (s.withAnswer a).sdat = s.sdat := rfl
@[simp] theorem State.withAnswer_sclk (a : Answer) : (s.withAnswer a).sclk = s.sclk := rfl
@[simp] theorem State.withAnswer_strb (a : Answer) : (s.withAnswer a).strb = s.strb := rfl
@[simp] theorem State.withAnswer_sr (a : Answer) : (s.withAnswer a).sr = s.sr := rfl
@[simp] theorem State.withAnswer_out (a : Answer) : (s.withAnswer a).out = s.out := rfl
@[simp] theorem State.withAnswer_store (a : Answer) : (s.withAnswer a).store = s.store := rfl
@[simp] theorem State.withAnswer_inputs (a : Answer) : (s.withAnswer a).inputs = s.inputs := rfl
@[simp] theorem State.withAnswer_offer (a : Answer) : (s.withAnswer a).offer = s.offer := rfl
@[simp] theorem State.withAnswer_started (a : Answer) : (s.withAnswer a).started = s.started := rfl
@[simp] theorem State.withAnswer_answer (a : Answer) : (s.withAnswer a).answer = a := rfl
@[simp] theorem State.withAnswer_len (a : Answer) : (s.withAnswer a).len = s.len := rfl

/-! ### State.powerCycle -/

@[simp] theorem State.powerCycle_msg : (s.powerCycle).msg = State.reset.msg := rfl
@[simp] theorem State.powerCycle_j : (s.powerCycle).j = State.reset.j := rfl
@[simp] theorem State.powerCycle_loops : (s.powerCycle).loops = State.reset.loops := rfl
@[simp] theorem State.powerCycle_i : (s.powerCycle).i = State.reset.i := rfl
@[simp] theorem State.powerCycle_phase : (s.powerCycle).phase = State.reset.phase := rfl
@[simp] theorem State.powerCycle_bitcnt : (s.powerCycle).bitcnt = State.reset.bitcnt := rfl
@[simp] theorem State.powerCycle_settlecnt : (s.powerCycle).settlecnt = State.reset.settlecnt := rfl
@[simp] theorem State.powerCycle_w : (s.powerCycle).w = State.reset.w := rfl
@[simp] theorem State.powerCycle_sdat : (s.powerCycle).sdat = State.reset.sdat := rfl
@[simp] theorem State.powerCycle_sclk : (s.powerCycle).sclk = State.reset.sclk := rfl
@[simp] theorem State.powerCycle_strb : (s.powerCycle).strb = State.reset.strb := rfl
@[simp] theorem State.powerCycle_sr : (s.powerCycle).sr = State.reset.sr := rfl
@[simp] theorem State.powerCycle_out : (s.powerCycle).out = State.reset.out := rfl
@[simp] theorem State.powerCycle_store : (s.powerCycle).store = s.store := rfl
@[simp] theorem State.powerCycle_inputs : (s.powerCycle).inputs = State.reset.inputs := rfl
@[simp] theorem State.powerCycle_offer : (s.powerCycle).offer = State.reset.offer := rfl
@[simp] theorem State.powerCycle_started : (s.powerCycle).started = State.reset.started := rfl
@[simp] theorem State.powerCycle_answer : (s.powerCycle).answer = State.reset.answer := rfl

/-! ### Edges without effect (R189) and edges with one -/

theorem State.driveSclk_rise (h : s.sclk = false) : s.driveSclk true = { s.shift with sclk := true } := by
  simp [State.driveSclk, State.shift, h]

theorem State.driveStrb_rise (h : s.strb = false) : s.driveStrb true = { s.latchOut with strb := true } := by
  simp [State.driveStrb, State.latchOut, h]

@[simp] theorem State.driveSclk_false_eq : s.driveSclk false = { s with sclk := false } := by simp [State.driveSclk]

@[simp] theorem State.driveStrb_false_eq : s.driveStrb false = { s with strb := false } := by simp [State.driveStrb]

end Sys2Proof.Machine
end

