-- ==== Sys2Proof/Laws/Store.lean ====
section
/-! SUPPORT. The persistent store: read after write, the canonical form, and the record (20_memory R63, 30_encoding R99). -/

namespace Sys2Proof.Machine

@[simp] theorem storeRead_write_same (mem : List Host.Cell) (a : Nat) (v : Byte) (lo : Nat) (h : storeWfFrom lo mem = true) :
    storeRead (storeWrite mem a v) a = v := by
  induction mem generalizing lo with
  | nil => by_cases hv : v = storeErased <;> simp [storeWrite, storeRead, hv]
  | cons c mem ih =>
    obtain ⟨k, w⟩ := c
    simp only [storeWfFrom, Bool.and_eq_true, decide_eq_true_eq] at h
    have below : ∀ (mem : List Host.Cell) (l : Nat), a < l → storeWfFrom l mem = true → storeRead mem a = storeErased := by
      intro mem
      induction mem with
      | nil => intros; rfl
      | cons d mem ihm =>
        intro l hl hw
        obtain ⟨q, u⟩ := d
        simp only [storeWfFrom, Bool.and_eq_true, decide_eq_true_eq] at hw
        have hq : q ≠ a := by omega
        simp [storeRead, hq, ihm (q + 1) (by omega) hw.2]
    unfold storeWrite
    split
    · rename_i hlt
      split
      · rename_i hv
        have hk : k ≠ a := by omega
        simp [storeRead, hk, below mem (k + 1) (by omega) h.2, hv]
      · simp [storeRead]
    · split
      · rename_i heq
        subst heq
        split
        · rename_i hv
          simp [below mem (a + 1) (by omega) h.2, hv]
        · simp [storeRead]
      · rename_i hne
        have hk : k ≠ a := fun e => hne e.symm
        simp [storeRead, hk, ih (k + 1) h.2]

@[simp] theorem storeRead_write_other (mem : List Host.Cell) (a b : Nat) (v : Byte) (hab : b ≠ a) (lo : Nat)
    (h : storeWfFrom lo mem = true) : storeRead (storeWrite mem a v) b = storeRead mem b := by
  induction mem generalizing lo with
  | nil => by_cases hv : v = storeErased <;> simp [storeWrite, storeRead, hv, hab.symm]
  | cons c mem ih =>
    obtain ⟨k, w⟩ := c
    simp only [storeWfFrom, Bool.and_eq_true, decide_eq_true_eq] at h
    unfold storeWrite
    split
    · split
      · rfl
      · simp [storeRead, hab.symm]
    · split
      · rename_i heq
        subst heq
        split <;> simp [storeRead, hab.symm]
      · simp [storeRead, ih (k + 1) h.2]

theorem storeWfFrom_mono {lo lo' : Nat} {mem : List Host.Cell} (h : storeWfFrom lo mem = true) (hle : lo' ≤ lo) :
    storeWfFrom lo' mem = true := by
  cases mem with
  | nil => rfl
  | cons c mem =>
    obtain ⟨k, w⟩ := c
    simp only [storeWfFrom, Bool.and_eq_true, decide_eq_true_eq] at h ⊢
    exact ⟨⟨by omega, h.1.2⟩, h.2⟩

/-- A write keeps the canonical form. -/
theorem storeWfFrom_write (mem : List Host.Cell) (a : Nat) (v : Byte) (lo : Nat) (h : storeWfFrom lo mem = true)
    (ha : lo ≤ a) : storeWfFrom lo (storeWrite mem a v) = true := by
  induction mem generalizing lo with
  | nil => by_cases hv : v = storeErased <;> simp [storeWrite, storeWfFrom, hv, ha]
  | cons c mem ih =>
    obtain ⟨k, w⟩ := c
    have h0 := h
    simp only [storeWfFrom, Bool.and_eq_true, decide_eq_true_eq] at h
    unfold storeWrite
    split
    · rename_i hlt
      split
      · exact h0
      · rename_i hv
        simp [storeWfFrom, ha, hv, h.1.2, h.2, hlt]
    · split
      · rename_i heq
        subst heq
        split
        · exact storeWfFrom_mono h.2 (by omega)
        · rename_i hv
          simp [storeWfFrom, ha, hv, h.2]
      · rename_i hne
        simp [storeWfFrom, h.1.1, h.1.2, ih (k + 1) h.2 (by omega)]

/-- Writing a sequence of bytes keeps the canonical form. -/
theorem storeWfFrom_writeFrom (bs : List Byte) (mem : List Host.Cell) (a lo : Nat) (h : storeWfFrom lo mem = true)
    (ha : lo ≤ a) : storeWfFrom lo (storeWriteFrom mem a bs) = true := by
  induction bs generalizing mem a with
  | nil => exact h
  | cons b bs ih => exact ih _ _ (storeWfFrom_write mem a b lo h ha) (by omega)

/-- What a byte of the store reads as after a sequence of bytes has been written. -/
theorem storeRead_writeFrom (bs : List Byte) (mem : List Host.Cell) (a x : Nat) (h : storeWf mem = true) :
    storeRead (storeWriteFrom mem a bs) x = if a ≤ x then bs.getD (x - a) (storeRead mem x) else storeRead mem x := by
  induction bs generalizing mem a with
  | nil => simp [storeWriteFrom]
  | cons b bs ih =>
    have hw : storeWf (storeWrite mem a b) = true := storeWfFrom_write mem a b 0 h (Nat.zero_le _)
    simp only [storeWriteFrom]
    rw [ih _ _ hw]
    by_cases hx : x = a
    · subst hx
      simp [storeRead_write_same mem x b 0 h]
    · rw [storeRead_write_other mem a x b hx 0 h]
      by_cases hle : a ≤ x
      · have h1 : a + 1 ≤ x := by omega
        have h2 : x - a = (x - (a + 1)) + 1 := by omega
        simp [hle, h1, h2]
      · have h1 : ¬ a + 1 ≤ x := by omega
        simp [hle, h1]

@[simp] theorem storeReadFrom_length (mem : List Host.Cell) (a n : Nat) : (storeReadFrom mem a n).length = n := by
  induction n generalizing a with
  | zero => rfl
  | succ n ih => simp [storeReadFrom, ih]

theorem storeReadFrom_getElem? (mem : List Host.Cell) (a n k : Nat) :
    (storeReadFrom mem a n)[k]? = if k < n then some (storeRead mem (a + k)) else none := by
  induction n generalizing a k with
  | zero => simp [storeReadFrom]
  | succ n ih =>
    cases k with
    | zero => simp [storeReadFrom]
    | succ k =>
      simp only [storeReadFrom, List.getElem?_cons_succ, ih, Nat.add_lt_add_iff_right]
      congr 2
      congr 1
      omega

/-- STORE_SAVE keeps the canonical form. -/
theorem storeWf_saveRecord (mem : List Host.Cell) (m : Message) (h : storeWf mem = true) :
    storeWf (saveRecord mem m) = true := storeWfFrom_writeFrom _ _ _ _ h (Nat.le_refl _)

/-- So does any part of it. -/
theorem storeWf_tornSave (mem : List Host.Cell) (m : Message) (n : Nat) (h : storeWf mem = true) :
    storeWf (tornSave mem m n) = true := storeWfFrom_writeFrom _ _ _ _ h (Nat.le_refl _)

/-- What a loaded message is: the default, or as many characters as the record's first byte says, none of them 0x00 or 0xFF. -/
theorem loadRecord_cases (c : Config) (mem : List Host.Cell) :
    loadRecord c mem = c.defaultMsg ∨
    (loadRecord c mem = storeReadFrom mem 1 (storeRead mem 0).toNat ∧
      c.msgMin ≤ (storeRead mem 0).toNat ∧ (storeRead mem 0).toNat ≤ c.msgMax ∧
      (storeReadFrom mem 1 (storeRead mem 0).toNat).any isTerminator = false) := by
  unfold loadRecord
  simp only
  split
  · exact .inl rfl
  · rename_i h1
    split
    · exact .inl rfl
    · rename_i h2
      simp only [Bool.or_eq_true, decide_eq_true_eq, not_or, not_lt] at h1
      exact .inr ⟨rfl, h1.1, h1.2, by simpa using h2⟩

end Sys2Proof.Machine
end

