-- ==== Sys2Proof/Laws/Engine.lean ====
section
/-! SUPPORT. What the guards and the eight engine operations can do, said once: an operation answers a next state exactly when
the state satisfies R33, is in the operation's phase and meets what else its rule asks, and then the state is the one its rule
gives. -/

namespace Sys2Proof.Machine

/-! ### Guards -/

theorem next_eq_next (a b : State) : (Host.Outcome.next a : Result) = .next b ↔ b = a :=
  ⟨fun h => by cases h; rfl, fun h => by rw [h]⟩

/-- The guard finds nothing exactly in the states that satisfy R33. -/
theorem invariantFault_eq_none (c : Config) (s : State) : invariantFault c s = none ↔ s.SpecInvariants c := by
  have h1 : (s.len < c.msgMin || c.msgMax < s.len) = false ↔ c.msgMin ≤ s.len ∧ s.len ≤ c.msgMax := by
    simp only [Bool.or_eq_false_iff, decide_eq_false_iff_not, Nat.not_lt]
  have h4 : digitOk c s = true ↔ s.i.toNat ≤ c.ndigits - 1 ∧ (s.phase = .check ∨ s.phase = .frameEnd → s.i = 0) := by
    simp only [digitOk, Bool.and_eq_true, decide_eq_true_eq, Bool.or_eq_true, Bool.not_eq_true', Bool.or_eq_false_iff,
      decide_eq_false_iff_not]
    tauto
  have h6 : (s.sclk && !decide (s.phase = .fall)) = false ↔ (s.phase ≠ .fall → s.sclk = false) := by
    cases s.sclk <;> simp
  have h7 : strobeOk s = true ↔
      (s.phase = .setup ∨ s.phase = .rise ∨ s.phase = .fall ∨ s.phase = .latch → s.strb = false) ∧
      (s.phase = .settle → s.strb = true) := by
    unfold strobeOk
    cases s.phase <;> simp
  simp only [State.SpecInvariants, State.InRanges, ← h4, ← h6, ← h7, invariantFault]
  rw [← and_assoc (a := c.msgMin ≤ s.len), ← h1]
  split
  · rename_i h
    simp only [h, reduceCtorEq, Bool.true_eq_false, false_and]
  iterate 6
    split
    · simp_all
      try omega
  simp_all

/-- What R33 says of the lines, for use by name. -/
theorem State.SpecInvariants.clock_low {c : Config} {s : State} (h : s.SpecInvariants c) (hp : s.phase ≠ .fall) : s.sclk = false :=
  h.2.2.2.1 hp

theorem State.SpecInvariants.strobe_low {c : Config} {s : State} (h : s.SpecInvariants c)
    (hp : s.phase = .setup ∨ s.phase = .rise ∨ s.phase = .fall ∨ s.phase = .latch) : s.strb = false := h.2.2.2.2.1 hp

theorem State.SpecInvariants.strobe_high {c : Config} {s : State} (h : s.SpecInvariants c) (hp : s.phase = .settle) :
    s.strb = true := h.2.2.2.2.2 hp

theorem enabled_next_iff (c : Config) (p : Phase) (s t : State) (r : Result) :
    enabled c p s r = .next t ↔ s.SpecInvariants c ∧ s.phase = p ∧ r = .next t := by
  rw [← invariantFault_eq_none]
  unfold enabled
  cases invariantFault c s
  · by_cases h : s.phase = p <;> simp [h]
  · simp

/-- Outside R33, and in another phase, every guarded operation is a fault (R140, R232). -/
theorem enabled_fault {c : Config} {p : Phase} {s : State} (h : ¬ (s.SpecInvariants c ∧ s.phase = p)) (r : Result) :
    ∃ f, enabled c p s r = .fault f := by
  rw [← invariantFault_eq_none] at h
  unfold enabled
  cases hf : invariantFault c s with
  | none => exact ⟨.stuckPhase, if_neg fun hp => h ⟨hf, hp⟩⟩
  | some f => exact ⟨f, rfl⟩

@[simp] theorem require_true (f : Fault) (r : Result) : require true f r = r := rfl

theorem require_next_iff (pre : Bool) (f : Fault) (r : Result) (t : State) :
    require pre f r = .next t ↔ pre = true ∧ r = .next t := by
  cases pre <;> simp [require]

/-! ### The character fetch -/

/-- In range, DBEGIN reads `msg[(j + 3 - i) mod len]` (R143, R62). -/
theorem fetchedChar_hw (s : State) (h : s.InRanges Config.hw) :
    fetchedChar Config.hw s = some (s.msg.getD ((s.j.toNat + 3 - s.i.toNat) % s.len) 0) := by
  have hl : 0 < s.msg.length := h.1
  have hlt : (s.j.toNat + 3 - s.i.toNat) % s.msg.length < s.msg.length := Nat.mod_lt _ hl
  have hne : s.msg ≠ [] := fun e => by simp [e] at hl
  simp [fetchedChar, indexOf, msgRead, State.len, hne, hlt]

/-! ### The eight operations -/

theorem dbegin_next_iff (c : Config) (s t : State) :
    dbegin c s = .next t ↔ s.SpecInvariants c ∧ s.phase = .begin ∧
      ∃ ch, fetchedChar c s = some ch ∧ t = beginDigit c s (translate c ch) := by
  unfold dbegin
  rw [enabled_next_iff]
  cases fetchedChar c s <;> simp [eq_comm (a := t)]

theorem bset_next_iff (c : Config) (s t : State) :
    bset c s = .next t ↔ s.SpecInvariants c ∧ s.phase = .setup ∧ t = (s.driveSdat (nextBit c s)).toPhase .rise := by
  simp only [bset, enabled_next_iff, next_eq_next]

theorem brise_next_iff (c : Config) (s t : State) :
    brise c s = .next t ↔ s.SpecInvariants c ∧ s.phase = .rise ∧ t = (s.driveSclk true).toPhase .fall := by
  simp only [brise, enabled_next_iff, next_eq_next]

theorem bfall_next_iff (c : Config) (s t : State) :
    bfall c s = .next t ↔ s.SpecInvariants c ∧ s.phase = .fall ∧ s.sclk = true ∧
      t = if lastBit c s then (s.driveSclk false).toPhase .latch
        else ({ s with bitcnt := s.bitcnt + 1 }.driveSclk false).toPhase .setup := by
  simp only [bfall, enabled_next_iff, require_next_iff, next_eq_next]

theorem dlatch_next_iff (c : Config) (s t : State) :
    dlatch c s = .next t ↔ s.SpecInvariants c ∧ s.phase = .latch ∧ lastBit c s = true ∧
      t = ({ s with settlecnt := 0 }.driveStrb true).toPhase .settle := by
  simp only [dlatch, enabled_next_iff, require_next_iff, next_eq_next]

theorem dsettle_next_iff (c : Config) (s t : State) :
    dsettle c s = .next t ↔ s.SpecInvariants c ∧ s.phase = .settle ∧ s.settlecnt.toNat < c.settleUnits ∧
      t = if lastTick c s then
          (if lastDigit c s then { s with i := 0 }.toPhase .frameEnd else { s with i := s.i + 1 }.toPhase .begin)
        else { s with settlecnt := s.settlecnt + 1 } := by
  simp only [dsettle, enabled_next_iff, require_next_iff, next_eq_next, decide_eq_true_eq]

theorem fend_next_iff (c : Config) (s t : State) :
    fend c s = .next t ↔ s.SpecInvariants c ∧ s.phase = .frameEnd ∧
      t = (if windowDue c s then { s with loops := 0, j := BitVec.ofNat _ ((s.j.toNat + 1) % s.len) }
        else { s with loops := s.loops + 1 }).toPhase .check := by
  simp only [fend, enabled_next_iff, next_eq_next]

theorem mcheck_next_iff (c : Config) (s t : State) :
    mcheck c s = .next t ↔ s.SpecInvariants c ∧ s.phase = .check ∧
      (((s.gather c).offer = none ∧ t = (s.gather c).toPhase .begin) ∨
       ∃ m, (s.gather c).offer = some m ∧ validMsg c m = true ∧ t = (acceptOffer (s.gather c) m).toPhase .begin) := by
  unfold mcheck
  rw [enabled_next_iff]
  cases h : (s.gather c).offer with
  | none => simp [eq_comm (a := t)]
  | some m =>
    by_cases hv : validMsg c m = true <;> simp [hv, eq_comm (a := t)]

/-! ### The host's part of a check -/

/-- An offer that the channel makes is valid (R201, R211). -/
theorem burstOffer_valid (c : Config) (burst : List Byte) (m : Message) (h : burstOffer c burst = some m) :
    validMsg c m = true := by
  have key : ∀ x : Message, (if x.length < c.msgMin then none else some x) = some m → x.length ≤ c.msgMax →
      validMsg c m = true := by
    intro x hx hle
    split at hx
    · cases hx
    · rename_i hmin
      cases hx
      simp only [validMsg, Bool.and_eq_true, decide_eq_true_eq]
      exact ⟨Nat.not_lt.1 hmin, hle⟩
  by_cases hb : burst.length ≤ c.msgMax
  · exact key burst (by simpa [burstOffer, hb] using h) hb
  · exact key ((c.overflowOffer burst).take c.msgMax) (by simpa [burstOffer, hb] using h) (by simp)

/-- ACCUMULATE touches no state of the core (43, its preamble; R208). -/
theorem State.accumulate_eq (c : Config) (s : State) :
    ∃ inputs offer, s.accumulate c = { s with inputs := inputs, offer := offer } := by
  unfold State.accumulate
  split <;> exact ⟨_, _, rfl⟩

/-- Nor does the whole gathering of input (R213). -/
theorem State.gather_eq (c : Config) (s : State) :
    ∃ inputs offer, s.gather c = { s with inputs := inputs, offer := offer } := by
  unfold State.gather
  split
  · exact State.accumulate_eq c s
  · exact ⟨_, _, rfl⟩

/-- ACCUMULATE keeps the host's duties. -/
theorem State.accumulate_hostOk (c : Config) (s : State) (h : s.HostOk c) : (s.accumulate c).HostOk c := by
  unfold State.accumulate
  split
  · exact h
  · rename_i burst later hi
    refine ⟨h.1, ?_⟩
    cases hb : burstOffer c burst with
    | none => exact h.2
    | some m => exact burstOffer_valid c burst m hb

/-- So does the gathering of input. -/
theorem State.gather_hostOk (c : Config) (s : State) (h : s.HostOk c) : (s.gather c).HostOk c := by
  unfold State.gather
  split
  · exact State.accumulate_hostOk c s h
  · exact h

/-! ### INIT -/

/-- A loaded message is valid (R201, R204). -/
theorem loadRecord_valid (mem : List Host.Cell) : validMsg Config.hw (loadRecord Config.hw mem) = true := by
  rcases loadRecord_cases Config.hw mem with h | ⟨h, h1, h2, -⟩
  · rw [h]
    exact Config.hw_default_valid
  · rw [h, validMsg_hw, storeReadFrom_length]
    exact ⟨h1, h2⟩

/-- INIT always completes on this hardware (R200: no exceptions). -/
theorem initMachine_hw (s : State) : initMachine Config.hw s = .next { s with
    msg := loadRecord Config.hw s.store, j := 0, loops := 0, i := 0, sclk := false, strb := false, phase := .begin,
    started := true } := by
  simp [initMachine, loadRecord_valid, State.install, State.toPhase]

end Sys2Proof.Machine
end

