-- ==== Sys2Proof/Laws/PerInstr.lean ====
section
/-! SUPPORT. The family FormatWidth: how many bytes the word of each row has (30_encoding R90, R104). -/

namespace Sys2Proof.Laws.FormatWidth

/-- The word of the row has the extent of its format: one byte (CHAR8, SEQ), two (TXWORD), a length byte and what it announces
(STOREREC), none (a row without a bit-level selector). -/
def Statement (i : Instr) : Prop :=
  match formatOf i with
  | .char8 => (encode i).length = 1
  | .seq => (encode i).length = 1
  | .txword => (encode i).length = 2
  | .storerec => wellFormed i = true → ∃ len rest, encode i = len :: rest ∧ rest.length = len.toNat + 1
  | _ => encode i = []

end Sys2Proof.Laws.FormatWidth

namespace Sys2Proof.Laws

theorem FormatWidth.glyphDigit0 : FormatWidth.Statement .glyphDigit0 := rfl
theorem FormatWidth.glyphDigit1 : FormatWidth.Statement .glyphDigit1 := rfl
theorem FormatWidth.glyphDigit2 : FormatWidth.Statement .glyphDigit2 := rfl
theorem FormatWidth.glyphDigit3 : FormatWidth.Statement .glyphDigit3 := rfl
theorem FormatWidth.glyphDigit4 : FormatWidth.Statement .glyphDigit4 := rfl
theorem FormatWidth.glyphDigit5 : FormatWidth.Statement .glyphDigit5 := rfl
theorem FormatWidth.glyphDigit6 : FormatWidth.Statement .glyphDigit6 := rfl
theorem FormatWidth.glyphDigit7 : FormatWidth.Statement .glyphDigit7 := rfl
theorem FormatWidth.glyphDigit8 : FormatWidth.Statement .glyphDigit8 := rfl
theorem FormatWidth.glyphDigit9 : FormatWidth.Statement .glyphDigit9 := rfl
theorem FormatWidth.glyphLowerA : FormatWidth.Statement .glyphLowerA := rfl
theorem FormatWidth.glyphLowerB : FormatWidth.Statement .glyphLowerB := rfl
theorem FormatWidth.glyphLowerC : FormatWidth.Statement .glyphLowerC := rfl
theorem FormatWidth.glyphLowerD : FormatWidth.Statement .glyphLowerD := rfl
theorem FormatWidth.glyphLowerE : FormatWidth.Statement .glyphLowerE := rfl
theorem FormatWidth.glyphLowerF : FormatWidth.Statement .glyphLowerF := rfl
theorem FormatWidth.glyphLowerG : FormatWidth.Statement .glyphLowerG := rfl
theorem FormatWidth.glyphLowerH : FormatWidth.Statement .glyphLowerH := rfl
theorem FormatWidth.glyphLowerI : FormatWidth.Statement .glyphLowerI := rfl
theorem FormatWidth.glyphLowerJ : FormatWidth.Statement .glyphLowerJ := rfl
theorem FormatWidth.glyphLowerK : FormatWidth.Statement .glyphLowerK := rfl
theorem FormatWidth.glyphLowerL : FormatWidth.Statement .glyphLowerL := rfl
theorem FormatWidth.glyphLowerM : FormatWidth.Statement .glyphLowerM := rfl
theorem FormatWidth.glyphLowerN : FormatWidth.Statement .glyphLowerN := rfl
theorem FormatWidth.glyphLowerO : FormatWidth.Statement .glyphLowerO := rfl
theorem FormatWidth.glyphLowerP : FormatWidth.Statement .glyphLowerP := rfl
theorem FormatWidth.glyphLowerQ : FormatWidth.Statement .glyphLowerQ := rfl
theorem FormatWidth.glyphLowerR : FormatWidth.Statement .glyphLowerR := rfl
theorem FormatWidth.glyphLowerS : FormatWidth.Statement .glyphLowerS := rfl
theorem FormatWidth.glyphLowerT : FormatWidth.Statement .glyphLowerT := rfl
theorem FormatWidth.glyphLowerU : FormatWidth.Statement .glyphLowerU := rfl
theorem FormatWidth.glyphLowerV : FormatWidth.Statement .glyphLowerV := rfl
theorem FormatWidth.glyphLowerW : FormatWidth.Statement .glyphLowerW := rfl
theorem FormatWidth.glyphLowerX : FormatWidth.Statement .glyphLowerX := rfl
theorem FormatWidth.glyphLowerY : FormatWidth.Statement .glyphLowerY := rfl
theorem FormatWidth.glyphLowerZ : FormatWidth.Statement .glyphLowerZ := rfl
theorem FormatWidth.glyphUpperA : FormatWidth.Statement .glyphUpperA := rfl
theorem FormatWidth.glyphUpperB : FormatWidth.Statement .glyphUpperB := rfl
theorem FormatWidth.glyphUpperC : FormatWidth.Statement .glyphUpperC := rfl
theorem FormatWidth.glyphUpperD : FormatWidth.Statement .glyphUpperD := rfl
theorem FormatWidth.glyphUpperE : FormatWidth.Statement .glyphUpperE := rfl
theorem FormatWidth.glyphUpperF : FormatWidth.Statement .glyphUpperF := rfl
theorem FormatWidth.glyphUpperG : FormatWidth.Statement .glyphUpperG := rfl
theorem FormatWidth.glyphUpperH : FormatWidth.Statement .glyphUpperH := rfl
theorem FormatWidth.glyphUpperI : FormatWidth.Statement .glyphUpperI := rfl
theorem FormatWidth.glyphUpperJ : FormatWidth.Statement .glyphUpperJ := rfl
theorem FormatWidth.glyphUpperK : FormatWidth.Statement .glyphUpperK := rfl
theorem FormatWidth.glyphUpperL : FormatWidth.Statement .glyphUpperL := rfl
theorem FormatWidth.glyphUpperM : FormatWidth.Statement .glyphUpperM := rfl
theorem FormatWidth.glyphUpperN : FormatWidth.Statement .glyphUpperN := rfl
theorem FormatWidth.glyphUpperO : FormatWidth.Statement .glyphUpperO := rfl
theorem FormatWidth.glyphUpperP : FormatWidth.Statement .glyphUpperP := rfl
theorem FormatWidth.glyphUpperQ : FormatWidth.Statement .glyphUpperQ := rfl
theorem FormatWidth.glyphUpperR : FormatWidth.Statement .glyphUpperR := rfl
theorem FormatWidth.glyphUpperS : FormatWidth.Statement .glyphUpperS := rfl
theorem FormatWidth.glyphUpperT : FormatWidth.Statement .glyphUpperT := rfl
theorem FormatWidth.glyphUpperU : FormatWidth.Statement .glyphUpperU := rfl
theorem FormatWidth.glyphUpperV : FormatWidth.Statement .glyphUpperV := rfl
theorem FormatWidth.glyphUpperW : FormatWidth.Statement .glyphUpperW := rfl
theorem FormatWidth.glyphUpperX : FormatWidth.Statement .glyphUpperX := rfl
theorem FormatWidth.glyphUpperY : FormatWidth.Statement .glyphUpperY := rfl
theorem FormatWidth.glyphUpperZ : FormatWidth.Statement .glyphUpperZ := rfl
theorem FormatWidth.glyphPunct (c : Byte) : FormatWidth.Statement (.glyphPunct c) := rfl
theorem FormatWidth.glyphBlank (c : Byte) : FormatWidth.Statement (.glyphBlank c) := rfl
theorem FormatWidth.txwordD0 (seg : BitVec 14) : FormatWidth.Statement (.txwordD0 seg) := rfl
theorem FormatWidth.txwordD1 (seg : BitVec 14) : FormatWidth.Statement (.txwordD1 seg) := rfl
theorem FormatWidth.txwordD2 (seg : BitVec 14) : FormatWidth.Statement (.txwordD2 seg) := rfl
theorem FormatWidth.txwordD3 (seg : BitVec 14) : FormatWidth.Statement (.txwordD3 seg) := rfl
theorem FormatWidth.mcheck : FormatWidth.Statement .mcheck := rfl
theorem FormatWidth.dbegin : FormatWidth.Statement .dbegin := rfl
theorem FormatWidth.bset : FormatWidth.Statement .bset := rfl
theorem FormatWidth.brise : FormatWidth.Statement .brise := rfl
theorem FormatWidth.bfall : FormatWidth.Statement .bfall := rfl
theorem FormatWidth.dlatch : FormatWidth.Statement .dlatch := rfl
theorem FormatWidth.dsettle : FormatWidth.Statement .dsettle := rfl
theorem FormatWidth.fend : FormatWidth.Statement .fend := rfl
theorem FormatWidth.chainShift : FormatWidth.Statement .chainShift := rfl
theorem FormatWidth.chainLatchout : FormatWidth.Statement .chainLatchout := rfl
theorem FormatWidth.translate (c : Byte) : FormatWidth.Statement (.translate c) := rfl
theorem FormatWidth.index (j : BitVec 7) (i : BitVec 2) (len : BitVec 8) : FormatWidth.Statement (.index j i len) := rfl
theorem FormatWidth.pack (i : BitVec 2) (g : Glyph) : FormatWidth.Statement (.pack i g) := rfl
theorem FormatWidth.init : FormatWidth.Statement .init := rfl
theorem FormatWidth.offer (o : Option Message) : FormatWidth.Statement (.offer o) := rfl
theorem FormatWidth.storeLoad : FormatWidth.Statement .storeLoad := rfl
theorem FormatWidth.storeSave (m : Message) : FormatWidth.Statement (.storeSave m) := rfl
theorem FormatWidth.accumulate : FormatWidth.Statement .accumulate := rfl
theorem FormatWidth.storerec (len : Byte) (chars : List Byte) (term : Byte) : FormatWidth.Statement (.storerec len chars term) := by
  intro h
  simp only [wellFormed, wellFormedWith, Bool.and_eq_true, decide_eq_true_eq] at h
  exact ⟨len, chars ++ [term], rfl, by simp [h.1.2]⟩

end Sys2Proof.Laws
end

