-- ==== Sys2Proof/Laws/Step.lean ====
section
/-! SUPPORT. One step and a run of steps. -/

namespace Sys2Proof.Machine

/-- Every phase code decodes to the phase's operation (R103). -/
theorem decode_phaseCode (p : Phase) (rest : List Byte) : decode .seq (phaseCode p :: rest) = .ok (phaseRow p) rest := by
  cases p <;> rfl

/-- What a step runs. -/
theorem step_eq (s : State) : step s = if s.started then exec (phaseRow s.phase) s else exec .init s := by
  unfold step fetch
  cases s.started
  · rfl
  · simp [decode_phaseCode]

theorem step_started (s : State) (h : s.started = true) : step s = exec (phaseRow s.phase) s := by
  simp [step_eq, h]

theorem step_unstarted (s : State) (h : s.started = false) : step s = exec .init s := by
  simp [step_eq, h]

theorem reaches_zero (s t : State) : s.Reaches 0 t ↔ t = s := by
  constructor
  · intro h
    cases h
    rfl
  · rintro rfl
    rfl

theorem reaches_succ (s t : State) (n : Nat) : s.Reaches (n + 1) t ↔ ∃ u, step s = .next u ∧ u.Reaches n t := by
  have hs : Sys2Proof.core.step s = step s := rfl
  simp only [State.Reaches, Host.Core.run, hs]
  cases step s with
  | next u => exact ⟨fun h => ⟨u, rfl, h⟩, fun ⟨_, h1, h2⟩ => by cases h1; exact h2⟩
  | fault r => exact ⟨fun h => (nomatch h), fun ⟨_, h1, _⟩ => (nomatch h1)⟩
  | refused r => exact ⟨fun h => (nomatch h), fun ⟨_, h1, _⟩ => (nomatch h1)⟩

/-- Runs compose. -/
theorem reaches_add (s t u : State) (m n : Nat) (h : s.Reaches m t) (h' : t.Reaches n u) : s.Reaches (m + n) u := by
  induction m generalizing s with
  | zero =>
    rw [reaches_zero] at h
    subst h
    simpa using h'
  | succ m ih =>
    rw [reaches_succ] at h
    obtain ⟨v, hv, hm⟩ := h
    have : m + 1 + n = m + n + 1 := by omega
    rw [this, reaches_succ]
    exact ⟨v, hv, ih v hm⟩

end Sys2Proof.Machine
end

