-- ==== Sys2Proof/Laws/Running.lean ====
section
/-! SUPPORT. The step of each phase on this hardware, as the state it leads to: one lemma per phase, from the ranges of R33 and
what the phase's precondition asks. A proof about a run chains these with `reaches_succ`. -/

namespace Sys2Proof.Machine

/-- SHIFT, as arithmetic: the register doubles and takes the level of SDAT as its low bit (R181). -/
theorem State.shift_sr_eq (s : State) : s.shift.sr = BitVec.ofNat 16 (s.sr.toNat * 2 + s.sdat.toNat) := by
  have h : s.shift.sr = s.sr.extractLsb' 0 15 ++ BitVec.ofBool s.sdat := rfl
  rw [h]
  generalize s.sr = r
  generalize s.sdat = b
  apply BitVec.eq_of_getLsbD_eq
  intro k hk
  rw [BitVec.getLsbD_append, BitVec.getLsbD_ofNat]
  cases k with
  | zero => cases b <;> simp [Nat.testBit_zero, Nat.add_mod]
  | succ k =>
    have h2 : (r.toNat * 2 + b.toNat) / 2 = r.toNat := by
      cases b
      · simp
      · simp
        omega
    have hk' : k < 15 := by omega
    have h3 : (r.toNat % 2 ^ 15).testBit k = r.toNat.testBit k := by
      rw [Nat.testBit_mod_two_pow]
      simp only [hk', decide_true, Bool.true_and]
    simpa [Nat.testBit_succ, h2, BitVec.getLsbD, hk] using h3

theorem lastBit_hw (s : State) : lastBit Config.hw s = decide (s.bitcnt = 15) := by
  simp [lastBit, ← BitVec.toNat_inj]

theorem lastTick_hw (s : State) : lastTick Config.hw s = decide (s.settlecnt = 5) := by
  simp [lastTick, ← BitVec.toNat_inj]

theorem lastDigit_hw (s : State) : lastDigit Config.hw s = decide (s.i = 3) := by
  simp [lastDigit, ← BitVec.toNat_inj]

theorem windowDue_hw (s : State) : windowDue Config.hw s = decide (s.loops = 9) := by
  simp [windowDue, ← BitVec.toNat_inj]

theorem nextBit_hw (s : State) : nextBit Config.hw s = s.w.getLsbD (15 - s.bitcnt.toNat) := rfl

variable {s : State}

theorem step_begin (hs : s.started = true) (hr : s.SpecInvariants Config.hw) (hp : s.phase = .begin) :
    step s = .next { s with w := s.wordFor s.i, strb := false, bitcnt := 0, phase := .setup } := by
  rw [step_started s hs, hp]
  show dbegin Config.hw s = _
  rw [dbegin_next_iff]
  exact ⟨hr, hp, _, fetchedChar_hw s hr.1, by simp [beginDigit, State.toPhase, State.wordFor, State.charAt]⟩

theorem step_setup (hs : s.started = true) (hr : s.SpecInvariants Config.hw) (hp : s.phase = .setup) :
    step s = .next { s with sdat := s.w.getLsbD (15 - s.bitcnt.toNat), phase := .rise } := by
  rw [step_started s hs, hp]
  show bset Config.hw s = _
  rw [bset_next_iff]
  exact ⟨hr, hp, rfl⟩

theorem step_rise (hs : s.started = true) (hr : s.SpecInvariants Config.hw) (hp : s.phase = .rise) :
    step s = .next { s with sclk := true, sr := s.shift.sr, phase := .fall } := by
  rw [step_started s hs, hp]
  show brise Config.hw s = _
  rw [brise_next_iff]
  exact ⟨hr, hp, by rw [s.driveSclk_rise (hr.clock_low (by simp [hp]))]; rfl⟩

theorem step_fall_last (hs : s.started = true) (hr : s.SpecInvariants Config.hw) (hp : s.phase = .fall) (hc : s.sclk = true)
    (hn : s.bitcnt = 15) : step s = .next { s with sclk := false, phase := .latch } := by
  rw [step_started s hs, hp]
  show bfall Config.hw s = _
  rw [bfall_next_iff, lastBit_hw, decide_eq_true hn]
  exact ⟨hr, hp, hc, by simp [State.toPhase]⟩

theorem step_fall_more (hs : s.started = true) (hr : s.SpecInvariants Config.hw) (hp : s.phase = .fall) (hc : s.sclk = true)
    (hn : s.bitcnt ≠ 15) : step s = .next { s with sclk := false, bitcnt := s.bitcnt + 1, phase := .setup } := by
  rw [step_started s hs, hp]
  show bfall Config.hw s = _
  rw [bfall_next_iff, lastBit_hw, decide_eq_false hn]
  exact ⟨hr, hp, hc, by simp [State.toPhase]⟩

theorem step_latch (hs : s.started = true) (hr : s.SpecInvariants Config.hw) (hp : s.phase = .latch) (hn : s.bitcnt = 15) :
    step s = .next { s with strb := true, out := s.sr, settlecnt := 0, phase := .settle } := by
  rw [step_started s hs, hp]
  show dlatch Config.hw s = _
  rw [dlatch_next_iff, lastBit_hw]
  exact ⟨hr, hp, by simp [hn],
    by simp [State.driveStrb, State.toPhase, State.latchOut, hr.strobe_low (.inr (.inr (.inr hp)))]⟩

theorem step_settle_last (hs : s.started = true) (hr : s.SpecInvariants Config.hw) (hp : s.phase = .settle)
    (hn : s.settlecnt = 5) :
    step s = .next { s with i := s.i + 1, phase := if s.i = 3 then .frameEnd else .begin } := by
  rw [step_started s hs, hp]
  show dsettle Config.hw s = _
  rw [dsettle_next_iff, lastTick_hw, lastDigit_hw]
  refine ⟨hr, hp, by rw [hn]; decide, ?_⟩
  rw [decide_eq_true hn, if_pos rfl]
  by_cases hi : s.i = 3
  · rw [decide_eq_true hi, if_pos rfl, if_pos hi, hi]
    rfl
  · rw [decide_eq_false hi, if_neg hi]
    rfl

theorem step_settle_more (hs : s.started = true) (hr : s.SpecInvariants Config.hw) (hp : s.phase = .settle)
    (hn : s.settlecnt.toNat < 5) : step s = .next { s with settlecnt := s.settlecnt + 1 } := by
  rw [step_started s hs, hp]
  show dsettle Config.hw s = _
  have h5 : s.settlecnt ≠ 5 := fun e => by rw [e] at hn; exact absurd hn (by decide)
  rw [dsettle_next_iff, lastTick_hw, decide_eq_false h5]
  exact ⟨hr, hp, Nat.lt_succ_of_lt hn, by simp [hp]⟩

theorem step_frameEnd_due (hs : s.started = true) (hr : s.SpecInvariants Config.hw) (hp : s.phase = .frameEnd)
    (hn : s.loops = 9) :
    step s = .next { s with loops := 0, j := BitVec.ofNat 7 ((s.j.toNat + 1) % s.len), phase := .check } := by
  rw [step_started s hs, hp]
  show fend Config.hw s = _
  rw [fend_next_iff, windowDue_hw, decide_eq_true hn]
  exact ⟨hr, hp, rfl⟩

theorem step_frameEnd_more (hs : s.started = true) (hr : s.SpecInvariants Config.hw) (hp : s.phase = .frameEnd)
    (hn : s.loops ≠ 9) : step s = .next { s with loops := s.loops + 1, phase := .check } := by
  rw [step_started s hs, hp]
  show fend Config.hw s = _
  rw [fend_next_iff, windowDue_hw, decide_eq_false hn]
  exact ⟨hr, hp, rfl⟩

/-- The check, in terms of what the host has gathered. -/
theorem step_check (hs : s.started = true) (hr : s.SpecInvariants Config.hw) (hp : s.phase = .check) (ho : s.HostOk Config.hw) :
    step s = .next (match (s.gather Config.hw).offer with
      | none => (s.gather Config.hw).toPhase .begin
      | some m => (acceptOffer (s.gather Config.hw) m).toPhase .begin) := by
  rw [step_started s hs, hp]
  show mcheck Config.hw s = _
  rw [mcheck_next_iff]
  refine ⟨hr, hp, ?_⟩
  have hv := (s.gather_hostOk Config.hw ho).2
  cases h : (s.gather Config.hw).offer with
  | none => exact .inl ⟨rfl, rfl⟩
  | some m => exact .inr ⟨m, rfl, by simpa [h] using hv, rfl⟩

/-- Where the channel brings nothing, the check gathers nothing (R210). -/
theorem State.gather_noReplacement (h : s.NoReplacement 1) : s.gather Config.hw = { s with inputs := s.inputs.drop 1 } := by
  obtain ⟨ho, hi⟩ := h
  simp only [State.gather, ho, if_true, State.accumulate]
  cases hs : s.inputs with
  | nil => cases s; simp_all
  | cons b l =>
    have hb : b = [] := hi b (by simp [hs])
    cases s
    simp_all [burstOffer, burstRest]

/-- The phases of a running state, with what the invariant gives in each. -/
theorem running_cases (h : s.Running Config.hw) :
    (s.phase = .check ∧ s.sclk = false ∧ s.i = 0) ∨ (s.phase = .begin ∧ s.sclk = false) ∨
    (s.phase = .setup ∧ s.sclk = false ∧ s.strb = false) ∨ (s.phase = .rise ∧ s.sclk = false ∧ s.strb = false) ∨
    (s.phase = .fall ∧ s.sclk = true ∧ s.strb = false) ∨
    (s.phase = .latch ∧ s.sclk = false ∧ s.strb = false ∧ s.bitcnt = 15) ∨
    (s.phase = .settle ∧ s.sclk = false ∧ s.strb = true ∧ s.settlecnt.toNat < 6) ∨
    (s.phase = .frameEnd ∧ s.sclk = false ∧ s.i = 0) := by
  have hr := (h.1.2 h.2).2
  unfold State.readyForPhase at hr
  cases hp : s.phase <;> simp_all [← BitVec.toNat_inj]

/-- A running state satisfies R33. -/
theorem State.Running.specInvariants (h : s.Running Config.hw) : s.SpecInvariants Config.hw := by
  refine ⟨(h.1.2 h.2).1, ⟨Nat.le_of_lt_succ s.i_lt, ?_⟩, Nat.le_of_lt_succ s.bitcnt_lt, ?_⟩
  · rcases running_cases h with h | h | h | h | h | h | h | h <;> simp [h]
  · rcases running_cases h with h | h | h | h | h | h | h | h <;> simp [h]

end Sys2Proof.Machine
end

