-- ==== Sys2Proof/Laws/Words.lean ====
section
/-! SUPPORT. The fields of a transmitted word and its two bytes, put together and taken apart (30_encoding R95, R96). -/

namespace Sys2Proof.Machine

theorem dselOf_hw (w : TxWord) : dselOf Config.hw w = w.extractLsb' 14 2 := rfl

theorem segOf_hw (w : TxWord) : segOf Config.hw w = w.extractLsb' 0 14 := rfl

/-- PACK with the source's numbers: `i << 6` onto the high byte (R97). -/
theorem packWord_hw (i : BitVec 2) (g : Glyph) :
    packWord Config.hw i g = (g.extractLsb' 8 8 + (i.setWidth 8 <<< 6)) ++ g.extractLsb' 0 8 := rfl

theorem dselOf_txWord (d : BitVec 2) (seg : BitVec 14) : dselOf Config.hw (txWord d seg) = d := by
  apply BitVec.eq_of_getLsbD_eq
  intro k hk
  simp only [txWord, dselOf_hw, BitVec.getLsbD_extractLsb']
  rw [BitVec.getLsbD_append]
  simp [hk]

theorem segOf_txWord (d : BitVec 2) (seg : BitVec 14) : segOf Config.hw (txWord d seg) = seg := by
  apply BitVec.eq_of_getLsbD_eq
  intro k hk
  simp only [txWord, segOf_hw, BitVec.getLsbD_extractLsb']
  rw [BitVec.getLsbD_append]
  simp [hk]

/-- A word is its two fields. -/
theorem txWord_dselOf_segOf (w : TxWord) : txWord (dselOf Config.hw w) (segOf Config.hw w) = w := by
  apply BitVec.eq_of_getLsbD_eq
  intro k hk
  simp only [txWord, dselOf_hw, segOf_hw]
  rw [BitVec.getLsbD_append]
  by_cases h : k < 14
  · simp [h]
  · have hk : k < 16 := hk
    have h2 : k - 14 < 2 := by omega
    have h3 : 14 + (k - 14) = k := by omega
    simp [h, h2, h3]

/-- What a word with given fields drives (R183, R184). -/
theorem driveOf_txWord (d : BitVec 2) (seg : BitVec 14) : driveOf (txWord d seg) = .drive d seg (digitEnOf d) := by
  simp [driveOf, dselOf_txWord, segOf_txWord]

end Sys2Proof.Machine

namespace Sys2Proof

/-- The two bytes of the word made of two bytes. -/
theorem wordBytes_append (hi lo : Byte) : wordBytes (hi ++ lo) = [hi, lo] := by
  have h1 : (hi ++ lo : BitVec 16).extractLsb' 8 8 = hi := by
    apply BitVec.eq_of_getLsbD_eq
    intro k hk
    rw [BitVec.getLsbD_extractLsb', BitVec.getLsbD_append]
    simp [hk]
  have h2 : (hi ++ lo : BitVec 16).extractLsb' 0 8 = lo := by
    apply BitVec.eq_of_getLsbD_eq
    intro k hk
    rw [BitVec.getLsbD_extractLsb', BitVec.getLsbD_append]
    simp [hk]
  simp only [wordBytes]
  rw [h1, h2]

/-- The word made of its two bytes. -/
theorem append_wordBytes (w : TxWord) : (w.extractLsb' 8 8 ++ w.extractLsb' 0 8 : BitVec 16) = w := by
  apply BitVec.eq_of_getLsbD_eq
  intro k hk
  rw [BitVec.getLsbD_append]
  by_cases h : k < 8
  · simp [h]
  · have hk : k < 16 := hk
    have h2 : k - 8 < 8 := by omega
    have h3 : 8 + (k - 8) = k := by omega
    simp [h, h2, h3]

/-- The entries of the three tables: the code, the format and the well-formedness of each row. -/
theorem digitRow_word (n : Nat) (h : n < 10) : encode (digitRow n) = [BitVec.ofNat 8 (0x30 + n)] ∧
    formatOf (digitRow n) = .char8 ∧ wellFormed (digitRow n) = true := by
  interval_cases n <;> exact ⟨rfl, rfl, rfl⟩

theorem lowerRow_word (n : Nat) (h : n < 26) : encode (lowerRow n) = [BitVec.ofNat 8 (0x61 + n)] ∧
    formatOf (lowerRow n) = .char8 ∧ wellFormed (lowerRow n) = true := by
  interval_cases n <;> exact ⟨rfl, rfl, rfl⟩

theorem upperRow_word (n : Nat) (h : n < 26) : encode (upperRow n) = [BitVec.ofNat 8 (0x41 + n)] ∧
    formatOf (upperRow n) = .char8 ∧ wellFormed (upperRow n) = true := by
  interval_cases n <;> exact ⟨rfl, rfl, rfl⟩

end Sys2Proof
end

