-- ==== Sys2Proof/Tests/Slice0.lean ====
section
/-! SUPPORT. The model's own tests. Expected values are those of spec/95_test_vectors.md (its section is named at each test) or of
the worked example of the rule named; they use the synthetic TESTFONT of its section 2, which is not the hardware's font. After
them stand the witnesses of the statements' hypotheses, at boundary values. -/

namespace Sys2Proof.Tests

open Sys2Proof Sys2Proof.Machine

/-! ### TESTFONT and small states -/

/-- TESTFONT (95, section 2): 0x1030 + d, 0x2041 + k, 0x3061 + k, 0x0100 + c. -/
def testConfig : Config :=
  { Config.hw with
    fontDigit := fun d => BitVec.ofNat 16 (0x1030 + d.val)
    fontUpper := fun k => BitVec.ofNat 16 (0x2041 + k.val)
    fontLower := fun k => BitVec.ofNat 16 (0x3061 + k.val)
    punct := punctStandIn.map fun e => (e.1, 0x0100 + e.1.setWidth 16)
    defaultMsg := [0x3F] }

/-- A state with the message "ABCD" at the start of phase `p`, its lines as the phase asks. -/
def at' (p : Phase) : State where
  msg := [0x41, 0x42, 0x43, 0x44]
  j := 0
  loops := 0
  i := 0
  phase := p
  bitcnt := if p = .latch then 15 else 0
  settlecnt := 0
  w := 0x6043
  sdat := false
  sclk := decide (p = .fall)
  strb := decide (p = .settle)
  sr := 0x2044
  out := 0x2044
  store := []
  inputs := []
  offer := none
  started := true
  answer := .nothing

/-- The outcome is a next state of which `q` holds. -/
def nextHas (r : Result) (q : State → Bool) : Bool :=
  match r with
  | .next t => q t
  | _ => false

/-! ### WellFormed refuses an ill-formed term at each check -/

theorem test_wf_punct_digit : wellFormed (.glyphPunct 0x30) = false := rfl
theorem test_wf_punct_not_in_mapping : wellFormedWith testConfig (.glyphPunct 0x20) = false := by decide
theorem test_wf_blank_letter : wellFormed (.glyphBlank 0x41) = false := rfl
theorem test_wf_blank_in_mapping : wellFormedWith testConfig (.glyphBlank 0x21) = false := by decide
theorem test_wf_index_length_zero : wellFormed (.index 0 0 0) = false := by decide
theorem test_wf_index_length_129 : wellFormed (.index 0 0 129) = false := by decide
theorem test_wf_index_offset : wellFormed (.index 4 0 4) = false := by decide
theorem test_wf_offer_empty : wellFormed (.offer (some [])) = false := by decide
set_option maxRecDepth 10000 in
theorem test_wf_offer_129 : wellFormed (.offer (some (List.replicate 129 0x41))) = false := by decide
theorem test_wf_save_empty : wellFormed (.storeSave []) = false := by decide
theorem test_wf_record_length_zero : wellFormed (.storerec 0 [] 0) = false := by decide
set_option maxRecDepth 10000 in
theorem test_wf_record_length_129 : wellFormed (.storerec 129 (List.replicate 129 0x41) 0) = false := by decide
theorem test_wf_record_extent : wellFormed (.storerec 2 [0x41] 0) = false := by decide
theorem test_wf_record_char : wellFormed (.storerec 1 [0xFF] 0) = false := by decide
/-- A wrong terminator does not make a record invalid (R100, D20). -/
theorem test_wf_record_terminator : wellFormed (.storerec 1 [0x41] 0x55) = true := by decide
theorem test_wf_record : wellFormed (.storerec 1 [0x41] 0) = true := by decide

/-! ### Decode: words written out from the encodings of 30_encoding -/

theorem test_decode_digit : decode .char8 [0b00110000] = .ok .glyphDigit0 [] ∧ decode .char8 [0b00111001] = .ok .glyphDigit9 [] := by decide
theorem test_decode_lower : decode .char8 [0b01100001] = .ok .glyphLowerA [] ∧ decode .char8 [0b01111010] = .ok .glyphLowerZ [] := by decide
theorem test_decode_upper : decode .char8 [0b01000001] = .ok .glyphUpperA [] ∧ decode .char8 [0b01011010] = .ok .glyphUpperZ [] := by decide
/-- Every letter and digit code, in the order of the tables (R91). -/
theorem test_decode_alnum_codes :
    ((List.range 10).map fun k => decode .char8 [BitVec.ofNat 8 (0x30 + k)]) = (List.range 10).map (fun k => .ok (digitRow k) []) ∧
    ((List.range 26).map fun k => decode .char8 [BitVec.ofNat 8 (0x61 + k)]) = (List.range 26).map (fun k => .ok (lowerRow k) []) ∧
    ((List.range 26).map fun k => decode .char8 [BitVec.ofNat 8 (0x41 + k)]) = (List.range 26).map (fun k => .ok (upperRow k) []) := by decide
theorem test_decode_punct_and_blank : decodeWith testConfig .char8 [0x2F] = .ok (.glyphPunct 0x2F) [] ∧
    decodeWith testConfig .char8 [0x20] = .ok (.glyphBlank 0x20) [] := by decide
theorem test_decode_txword : decode .txword [0x20, 0x44] = .ok (.txwordD0 0x2044) [] ∧ decode .txword [0x60, 0x43] = .ok (.txwordD1 0x2043) [] ∧
    decode .txword [0xA0, 0x42] = .ok (.txwordD2 0x2042) [] ∧ decode .txword [0xE0, 0x41] = .ok (.txwordD3 0x2041) [] := by decide
theorem test_decode_phases : ((List.range 8).map fun k => decode .seq [BitVec.ofNat 8 k]) =
    engineRows.map (fun i => .ok i []) := by decide
theorem test_decode_phase_8 : decode .seq [8] = .bad .badPhase := by decide
theorem test_decode_record : decode .storerec [0x01, 0x41, 0x00, 0x55] = .ok (.storerec 1 [0x41] 0) [0x55] := by decide
theorem test_decode_record_terminator : decode .storerec [0x02, 0x48, 0x69, 0x55] = .ok (.storerec 2 [0x48, 0x69] 0x55) [] := by decide
theorem test_decode_truncated : decode .txword [0x20] = .bad .truncated ∧ decode .storerec [0x02, 0x41] = .bad .truncated := by decide
theorem test_encode_txword : encode (.txwordD3 0x2041) = [0xE0, 0x41] := by decide
theorem test_table_words : decodeTableWord 8 0x37 = some .glyphDigit7 ∧ decodeTableWord 16 0x8000 = some (.txwordD2 0) ∧
    decodeTableWord 8 5 = some .dlatch ∧ decodeTableWord 16 0x38 = some .glyphDigit8 := by decide

set_option maxRecDepth 10000 in
/-- The mask and match pairs of R92 give the classes of R91. -/
theorem test_masks_of_R92 : ∀ c : Byte,
    isDigit c = ((c &&& 0xF8 == 0x30) || (c &&& 0xFE == 0x38)) ∧
    isUpper c = ((c == 0x41) || (c &&& 0xFE == 0x42) || (c &&& 0xFC == 0x44) || (c &&& 0xF8 == 0x48) || (c &&& 0xF8 == 0x50) ||
      (c &&& 0xFE == 0x58) || (c == 0x5A)) ∧
    isLower c = ((c == 0x61) || (c &&& 0xFE == 0x62) || (c &&& 0xFC == 0x64) || (c &&& 0xF8 == 0x68) || (c &&& 0xF8 == 0x70) ||
      (c &&& 0xFE == 0x78) || (c == 0x7A)) := by decide

/-! ### TRANSLATE, INDEX, PACK (95, sections 3.1 to 3.3) -/

/-- TESTFONT is a legal mapping and satisfies WF_FONT. -/
theorem test_testfont_legal : punctLegal 32 testConfig.punct = true := by decide
theorem test_testfont_wf : testConfig.WfFont := by
  have h : testConfig.punct.all (fun e => decide (e.2.toNat < 2 ^ testConfig.nseg)) = true := by decide
  exact ⟨by decide, by decide, by decide, by simpa using List.all_eq_true.1 h⟩

set_option maxRecDepth 10000 in
theorem test_translate_tables : [(0x30, 0x1030), (0x37, 0x1037), (0x39, 0x1039), (0x41, 0x2041), (0x5A, 0x205A), (0x61, 0x3061),
    (0x7A, 0x307A), (0x2F, 0x012F), (0x3A, 0x013A), (0x40, 0x0140), (0x5B, 0x015B), (0x60, 0x0160), (0x7B, 0x017B),
    (0x7E, 0x017E)].all (fun p => translate testConfig (BitVec.ofNat 8 p.1) == BitVec.ofNat 16 p.2) = true := by decide
theorem test_translate_blank : [0x7F, 0x00, 0x07, 0x0A, 0x0D, 0x1F, 0x20, 0x80, 0xB0, 0xC1, 0xE1, 0xFF].all
    (fun n => translate testConfig (BitVec.ofNat 8 n) == 0) = true := by decide
set_option maxRecDepth 10000 in
theorem test_index : [(0, 0, 4, 3), (0, 1, 4, 2), (0, 2, 4, 1), (0, 3, 4, 0), (3, 0, 4, 2), (3, 3, 4, 3), (0, 0, 1, 0), (0, 3, 1, 0),
    (0, 0, 2, 1), (0, 1, 2, 0), (1, 0, 2, 0), (0, 0, 3, 0), (0, 1, 3, 2), (2, 0, 3, 2), (0, 0, 128, 3), (124, 0, 128, 127),
    (125, 0, 128, 0), (127, 0, 128, 2), (127, 3, 128, 127)].all
    (fun p => indexOf testConfig p.1 p.2.1 p.2.2.1 == some p.2.2.2) = true := by decide
theorem test_index_zero : indexOf testConfig 0 0 0 = none := by decide
theorem test_pack : packWord testConfig 0 0x2044 = 0x2044 ∧ packWord testConfig 1 0x2043 = 0x6043 ∧ packWord testConfig 2 0x2042 = 0xA042 ∧ packWord testConfig 3 0x2041 = 0xE041 ∧
    packWord testConfig 3 0x0000 = 0xC000 ∧ packWord testConfig 3 0x3FFF = 0xFFFF ∧ packWord testConfig 2 0x00FF = 0x80FF := by decide
/-- Without WF_FONT: an OR would give 0xC123 for the first (95, sections 3.3 and 5). -/
theorem test_pack_carry : packWord testConfig 1 0xC123 = 0x0123 ∧ packWord testConfig 3 0x4000 = 0x0000 ∧ packWord testConfig 2 0x8000 = 0x0000 ∧ packWord testConfig 3 0xFFFF = 0xBFFF := by decide

/-! ### The engine's operations (95, section 3.4) -/

theorem test_dbegin : nextHas (dbegin testConfig { at' .begin with i := 1, strb := true })
    (fun t => decide (t.w = 0x6043) && decide (t.bitcnt = 0) && !t.strb && decide (t.phase = .setup) && decide (t.out = 0x2044)) = true := by decide
theorem test_dbegin_window : nextHas (dbegin testConfig { at' .begin with j := 3 }) (fun t => decide (t.w = 0x2043)) = true := by decide
theorem test_bset : [(0, false), (1, true), (2, true), (15, true)].all
    (fun p => nextHas (bset testConfig { at' .setup with bitcnt := BitVec.ofNat 4 p.1 })
      (fun t => decide (t.sdat = p.2) && decide (t.phase = .rise))) = true := by decide
theorem test_brise : nextHas (exec .brise { at' .rise with sdat := true, sr := 0x4088 })
    (fun t => t.sclk && decide (t.sr = 0x8111) && decide (t.phase = .fall)) = true := by decide
theorem test_bfall : nextHas (exec .bfall { at' .fall with bitcnt := 7 })
    (fun t => !t.sclk && decide (t.bitcnt = 8) && decide (t.phase = .setup)) = true := by decide
theorem test_bfall_last : nextHas (exec .bfall { at' .fall with bitcnt := 15 })
    (fun t => !t.sclk && decide (t.bitcnt = 15) && decide (t.phase = .latch)) = true := by decide
theorem test_dlatch : nextHas (exec .dlatch { at' .latch with sr := 0x6043 })
    (fun t => t.strb && decide (t.out = 0x6043) && decide (t.settlecnt = 0) && decide (t.phase = .settle) && decide (t.dsel = 1) &&
      decide (t.seg = 0x2043)) = true := by decide
theorem test_dsettle : nextHas (exec .dsettle { at' .settle with settlecnt := 4, i := 1 })
    (fun t => decide (t.settlecnt = 5) && decide (t.phase = .settle)) = true := by decide
theorem test_dsettle_last : nextHas (exec .dsettle { at' .settle with settlecnt := 5, i := 1 })
      (fun t => decide (t.i = 2) && decide (t.phase = .begin)) = true ∧
    nextHas (exec .dsettle { at' .settle with settlecnt := 5, i := 3 })
      (fun t => decide (t.i = 0) && decide (t.phase = .frameEnd)) = true := by decide
theorem test_fend : [(0, 0, 1, 0), (8, 2, 9, 2), (9, 2, 0, 3), (9, 3, 0, 0)].all
    (fun p => nextHas (exec .fend { at' .frameEnd with loops := BitVec.ofNat 4 p.1, j := BitVec.ofNat 7 p.2.1 })
      (fun t => decide (t.loops.toNat = p.2.2.1) && decide (t.j.toNat = p.2.2.2) && decide (t.phase = .check))) = true := by decide
theorem test_fend_one_character : nextHas (exec .fend { at' .frameEnd with msg := [0x41], loops := 9 })
    (fun t => decide (t.loops = 0) && decide (t.j = 0)) = true := by decide
theorem test_mcheck_none : nextHas (exec .mcheck { at' .check with j := 2, loops := 5 })
    (fun t => decide (t.j = 2) && decide (t.loops = 5) && decide (t.phase = .begin)) = true := by decide
theorem test_mcheck_ok : nextHas (exec .mcheck { at' .check with j := 2, loops := 5, offer := some [0x6F, 0x6B] })
    (fun t => decide (t.msg = [0x6F, 0x6B]) && decide (t.len = 2) && decide (t.j = 0) && decide (t.loops = 0) && decide (t.phase = .begin) &&
      decide (storeReadFrom t.store 0 4 = [0x02, 0x6F, 0x6B, 0x00])) = true := by decide

/-! ### The chain (95, section 3.5) -/

theorem test_chain_shift : [(0x0000, true, 0x0001), (0x8001, false, 0x0002), (0xFFFF, false, 0xFFFE), (0x7FFF, true, 0xFFFF)].all
    (fun p => nextHas (exec .chainShift { at' .rise with sr := BitVec.ofNat 16 p.1, sdat := p.2.1 })
      (fun t => decide (t.sr = BitVec.ofNat 16 p.2.2))) = true := by decide
theorem test_chain_latchout : nextHas (exec .chainLatchout { at' .latch with sr := 0xE041, out := 0xA042 })
    (fun t => decide (t.out = 0xE041) && decide (t.dsel = 3) && decide (t.seg = 0x2041) && decide (t.digitEn = 0b1000)) = true := by decide
theorem test_txword_blank : exec (.txwordD1 0) (at' .begin) = .next { at' .begin with answer := .drive 1 0 0b0010 } := rfl

/-! ### The host's operations (95, section 3.6) -/

theorem test_store_save : nextHas (exec (.storeSave [0x48, 0x69]) (at' .begin))
    (fun t => decide (storeReadFrom t.store 0 4 = [0x02, 0x48, 0x69, 0x00])) = true := by decide
theorem test_store_load : loadRecord testConfig (storeWriteFrom [] 0 [0x02, 0x48, 0x69, 0x55]) = [0x48, 0x69] ∧
    loadRecord testConfig (storeWriteFrom [] 0 [0x01, 0x20, 0x00]) = [0x20] := by decide
theorem test_store_load_default : [[0x00], [0xFF], [0x81], [0x03, 0x41, 0x00, 0x43, 0x00], [0x03, 0x41, 0xFF, 0x43, 0x00]].all
    (fun bs => loadRecord testConfig (storeWriteFrom [] 0 bs) == [0x3F]) = true := by decide
/-- The exception to the round trip (90 C2). -/
theorem test_save_load_terminator : loadRecord testConfig (saveRecord [] [0x41, 0xFF, 0x42]) = [0x3F] := by decide
theorem test_init : nextHas (exec .init { at' .settle with started := false, j := 3, store := [(0, 0x02), (1, 0x48), (2, 0x69), (3, 0x00)] })
    (fun t => decide (t.msg = [0x48, 0x69]) && decide (t.j = 0) && decide (t.phase = .begin) && !t.strb && t.started) = true := by decide
theorem test_accumulate_nothing : nextHas (exec .accumulate { at' .check with inputs := [[], [0x41]] })
    (fun t => decide (t.offer = none) && decide (t.inputs = [[0x41]])) = true := by decide
theorem test_accumulate_burst : nextHas (exec .accumulate { at' .check with inputs := [[0x0A, 0x41]] })
    (fun t => decide (t.offer = some [0x0A, 0x41]) && decide (t.inputs = [])) = true := by decide
theorem test_offer_refused : exec (.offer (some [])) (at' .check) = .refused .invalidMessage := rfl
theorem test_storerec : exec (.storerec 2 [0x48, 0x69] 0) (at' .begin) = .next { at' .begin with answer := .message [0x48, 0x69] } := rfl

/-! ### One step -/

theorem test_step_from_power_on : ∃ t, step State.reset = .next t ∧ t.started = true ∧ t.phase = .begin :=
  ⟨_, (step_unstarted _ rfl).trans (initMachine_hw _), rfl, rfl⟩
theorem test_placed_character_runs : nextHas (step (State.reset.withFetchWord 8 0x37)) (fun t => decide (t.phase = .setup)) = true := by decide
theorem test_placed_word_runs : nextHas (step (State.reset.withFetchWord 16 0xC000))
    (fun t => decide (t.out = 0xC000) && decide (t.phase = .settle)) = true := by decide
theorem test_placed_phase_runs : nextHas (step (State.reset.withFetchWord 8 7)) (fun t => decide (t.loops = 1)) = true := by decide

/-! ### Witnesses: every hypothesis of a statement is met, at a boundary of its range -/

theorem witness_running : ∀ p ∈ [Phase.check, .begin, .setup, .rise, .fall, .latch, .settle, .frameEnd],
    (at' p).Running Config.hw ∧ (at' p).phase = p ∧ (at' p).InRanges Config.hw := by decide
set_option maxRecDepth 10000 in
/-- The longest message, the greatest offset, the greatest frame counter. -/
theorem witness_running_boundary : { at' .begin with msg := List.replicate 128 0x41, j := 127, loops := 9 }.Running Config.hw := by decide
theorem witness_EncodedRows : (wellFormed (.storerec 1 [0x41] 0) = true ∧ formatOf (.storerec 1 [0x41] 0) = .storerec) ∧
    (wellFormed .glyphDigit0 = true ∧ formatOf .glyphDigit0 = .char8) ∧
    (wellFormed (.txwordD3 0x3FFF) = true ∧ formatOf (.txwordD3 0x3FFF) = .txword) ∧
    (wellFormed .fend = true ∧ formatOf .fend = .seq) := ⟨by decide, ⟨rfl, rfl⟩, ⟨rfl, rfl⟩, ⟨rfl, rfl⟩⟩
theorem witness_DecodedRows : decode .seq [0x05, 0x41] = .ok .dlatch [0x41] := by decide
set_option maxRecDepth 10000 in
theorem witness_OnlyRecords : (7 : Byte).toNat < 8 ∧ ([] : List Byte).length = (0 : Byte).toNat ∧
    ((List.replicate 129 0x41 : List Byte).length = (129 : Byte).toNat ∧ 128 < (129 : Byte).toNat) ∧
    (([0x00] : List Byte).length = (1 : Byte).toNat ∧ (0x00 : Byte) ∈ ([0x00] : List Byte)) ∧
    (List.replicate 128 0xFF : List Byte).length = (128 : Byte).toNat := by decide
/-- The punctuation mapping has an entry, so the statement about its entries is about something. -/
theorem witness_PunctRow : ∃ e, e ∈ Config.hw.punct := by
  have h := Config.hw_punct_facts.1
  cases hp : Config.hw.punct with
  | nil => rw [hp] at h; exact absurd h (by decide)
  | cons e l => exact ⟨e, by simp⟩
/-- BEL is a code of no table. -/
theorem witness_BlankRow : isDigit 0x07 = false ∧ isLower 0x07 = false ∧ isUpper 0x07 = false ∧ (0x07 : Byte) ∉ Config.hw.punct.map Prod.fst ∧
    (0x1F : Byte).toNat ≤ 0x1F ∧ (0x7F : Byte).toNat = 0x7F := by
  refine ⟨rfl, rfl, rfl, ?_, by decide, by decide⟩
  intro h
  obtain ⟨e, he, hc⟩ := List.mem_map.1 h
  have := (Config.hw_punct_facts.2.2 e he).2
  rw [hc] at this
  exact absurd this (by decide)
theorem witness_CharClasses : isDigit 0x39 = true ∧ isLower 0x7A = true ∧ isUpper 0x5A = true := by decide
theorem witness_IndexRow : 1 ≤ (1 : BitVec 8).toNat ∧ 1 ≤ (128 : BitVec 8).toNat ∧ (0 : BitVec 8).toNat = 0 := by decide
theorem witness_PackRow : (0x3FFF : Glyph).toNat ≤ 0x3FFF := by decide
theorem witness_OutDrives : (at' .latch).lit 0 13 = true ∧ (at' .latch).lit 3 13 = false ∧ (at' .latch).lit 0 2 = true ∧
    (at' .latch).lit 0 0 = false ∧ (at' .latch).dsel.toNat = 0 := by decide
theorem witness_Dbegin : ∀ s ∈ [{ at' .begin with i := 3, j := 3, loops := 9 }], s.SpecInvariants Config.hw ∧ s.phase = .begin := by
  decide
theorem witness_Bset : ∀ s ∈ [{ at' .setup with bitcnt := 15 }, at' .setup], s.SpecInvariants Config.hw ∧ s.phase = .setup := by decide
theorem witness_Brise : (at' .rise).SpecInvariants Config.hw ∧ (at' .rise).phase = .rise := by decide
theorem witness_Bfall :
    (∀ s ∈ [{ at' .fall with bitcnt := 15 }], s.SpecInvariants Config.hw ∧ s.phase = .fall ∧ s.sclk = true ∧ s.bitcnt = 15) ∧
    ∀ s ∈ [{ at' .fall with bitcnt := 14 }], s.SpecInvariants Config.hw ∧ s.phase = .fall ∧ s.sclk = true ∧ s.bitcnt ≠ 15 := by decide
theorem witness_Dlatch : (at' .latch).SpecInvariants Config.hw ∧ (at' .latch).phase = .latch ∧ (at' .latch).bitcnt = 15 := by decide
theorem witness_Dsettle :
    (∀ s ∈ [{ at' .settle with settlecnt := 4 }], s.SpecInvariants Config.hw ∧ s.phase = .settle ∧ s.settlecnt.toNat < 5) ∧
    (∀ s ∈ [{ at' .settle with settlecnt := 5, i := 2 }], s.SpecInvariants Config.hw ∧ s.phase = .settle ∧ s.settlecnt = 5 ∧ s.i ≠ 3) ∧
    ∀ s ∈ [{ at' .settle with settlecnt := 5, i := 3 }], s.SpecInvariants Config.hw ∧ s.phase = .settle ∧ s.settlecnt = 5 ∧ s.i = 3 :=
  ⟨by decide, by decide, by decide⟩
theorem witness_Fend :
    (∀ s ∈ [{ at' .frameEnd with loops := 9 }], s.SpecInvariants Config.hw ∧ s.phase = .frameEnd ∧ s.loops = 9) ∧
    ∀ s ∈ [{ at' .frameEnd with loops := 8 }], s.SpecInvariants Config.hw ∧ s.phase = .frameEnd ∧ s.loops ≠ 9 := by decide
set_option maxRecDepth 10000 in
theorem witness_Mcheck :
    (∀ s ∈ [at' .check, { at' .check with inputs := [[], [0x41]] }],
      s.SpecInvariants Config.hw ∧ s.phase = .check ∧ s.NoReplacement 1) ∧
    ∀ m ∈ [[0x41], List.replicate 128 0x41], ∀ s ∈ [{ at' .check with offer := some m }],
      s.SpecInvariants Config.hw ∧ s.phase = .check ∧ s.offer = some m ∧ 1 ≤ m.length ∧ m.length ≤ 128 := by decide
set_option maxRecDepth 10000 in
theorem witness_McheckReads : ∀ burst ∈ ([[], [0x41], List.replicate 128 0x41, List.replicate 129 0x41] : List (List Byte)),
    (∀ s ∈ [{ at' .check with inputs := [burst, [0x41]] }],
      s.SpecInvariants Config.hw ∧ s.phase = .check ∧ s.offer = none ∧ s.inputs = burst :: [[0x41]]) ∧
    (burst = [] ∨ 1 ≤ burst.length ∧ burst.length ≤ 128 ∨ 128 < burst.length) := by decide
set_option maxRecDepth 10000 in
theorem witness_Invalid : ∀ m ∈ ([[], List.replicate 129 0x41] : List Message), (m.length = 0 ∨ 128 < m.length) ∧
    ∀ s ∈ [{ at' .check with offer := some m }], s.SpecInvariants Config.hw ∧ s.phase = .check ∧ s.offer = some m := by decide
set_option maxRecDepth 10000 in
theorem witness_StuckRanges : Instr.dbegin ∈ engineRows ∧
    (∀ s ∈ [{ at' .begin with msg := [] }, { at' .begin with msg := List.replicate 129 0x41 }], s.len = 0 ∨ 128 < s.len) ∧
    (∀ s ∈ [{ at' .begin with j := 4 }], 1 ≤ s.len ∧ s.len ≤ 128 ∧ s.len ≤ s.j.toNat) ∧
    (∀ s ∈ [{ at' .begin with loops := 10 }], 1 ≤ s.len ∧ s.len ≤ 128 ∧ s.j.toNat < s.len ∧ 10 ≤ s.loops.toNat) ∧
    (∀ s ∈ [{ at' .frameEnd with i := 1 }, { at' .check with i := 3 }],
      s.InRanges Config.hw ∧ (s.phase = .check ∨ s.phase = .frameEnd) ∧ s.i ≠ 0) ∧
    (∀ s ∈ [{ at' .begin with sclk := true }, { at' .latch with sclk := true }],
      s.InRanges Config.hw ∧ s.phase ≠ .check ∧ s.phase ≠ .frameEnd ∧ s.phase ≠ .fall ∧ s.sclk = true) ∧
    (∀ s ∈ [{ at' .rise with strb := true }, { at' .fall with strb := true }],
      s.InRanges Config.hw ∧ (s.phase = .fall ∨ s.sclk = false) ∧
      (s.phase = .setup ∨ s.phase = .rise ∨ s.phase = .fall ∨ s.phase = .latch) ∧ s.strb = true) ∧
    ∀ s ∈ [{ at' .settle with strb := false }], s.InRanges Config.hw ∧ s.sclk = false ∧ s.phase = .settle ∧ s.strb = false := by decide
/-- SCLK high in CHECK, and STRB high in RISE: outside R33, so the step is stuck. -/
theorem witness_StuckStep : ∀ s ∈ [{ at' .check with sclk := true }, { at' .rise with strb := true }],
    s.started = true ∧ ¬ s.SpecInvariants Config.hw := by decide
theorem test_stuck_step : step { at' .check with sclk := true } = .fault .stuckClock ∧
    step { at' .rise with strb := true } = .fault .stuckStrobe := ⟨rfl, rfl⟩
theorem witness_StuckPrecondition :
    (∀ s ∈ [at' .begin], s.SpecInvariants Config.hw ∧ Instr.mcheck ∈ engineRows ∧ Instr.mcheck ≠ phaseRow s.phase) ∧
    (∀ s ∈ [{ at' .fall with sclk := false }], s.SpecInvariants Config.hw ∧ s.phase = .fall ∧ s.sclk = false) ∧
    (∀ s ∈ [{ at' .latch with bitcnt := 14 }], s.SpecInvariants Config.hw ∧ s.phase = .latch ∧ s.bitcnt ≠ 15) ∧
    ∀ s ∈ [{ at' .settle with settlecnt := 6 }], s.SpecInvariants Config.hw ∧ s.phase = .settle ∧ 6 ≤ s.settlecnt.toNat :=
  ⟨by decide, by decide, by decide, by decide⟩
set_option maxRecDepth 10000 in
theorem witness_Offer : ∀ m ∈ ([[0x41], List.replicate 128 0x41] : List Message), 1 ≤ m.length ∧ m.length ≤ 128 := by decide
theorem witness_StoreLoad :
    (storeRead [] 0).toNat = 255 ∧ 128 < 255 ∧
    ((storeRead [(0, 0x01), (1, 0x00)] 0).toNat = 1 ∧ storeRead [(0, 0x01), (1, 0x00)] 1 = 0x00) ∧
    (storeRead [(0, 0x01), (1, 0x41)] 0).toNat = 1 ∧
      ∀ k, 1 ≤ k → k ≤ 1 → storeRead [(0, 0x01), (1, 0x41)] k ≠ 0x00 ∧ storeRead [(0, 0x01), (1, 0x41)] k ≠ 0xFF := by
  refine ⟨by decide, by decide, by decide, by decide, ?_⟩
  intro k h1 h2
  obtain rfl : k = 1 := by omega
  decide
set_option maxRecDepth 10000 in
theorem witness_StoreSave : ∀ m ∈ ([[0x41], List.replicate 128 0x41] : List Message),
    storeWf [(0, 0x01), (1, 0x41), (2, 0x00)] = true ∧ 1 ≤ m.length ∧ m.length ≤ 128 := by decide
set_option maxRecDepth 10000 in
theorem witness_Accumulate : (at' .check).inputs = [] ∧
    ∀ burst ∈ ([[], [0x41], List.replicate 129 0x41] : List (List Byte)),
      { at' .check with inputs := [burst] }.inputs = burst :: [] ∧ (burst = [] ∨ 1 ≤ burst.length ∧ burst.length ≤ 128 ∨ 128 < burst.length) := by
  decide
set_option maxRecDepth 10000 in
theorem witness_Storerec :
    (([] : List Byte).length = (0 : Byte).toNat ∧ (0 : Byte).toNat = 0) ∧
    ((List.replicate 129 0x41 : List Byte).length = (129 : Byte).toNat ∧ 128 < (129 : Byte).toNat) ∧
    (([0xFF] : List Byte).length = (1 : Byte).toNat ∧ (0xFF : Byte) ∈ ([0xFF] : List Byte)) ∧
    ([0x41] : List Byte).length = (1 : Byte).toNat ∧ 1 ≤ (1 : Byte).toNat ∧ (1 : Byte).toNat ≤ 128 ∧
      (0x00 : Byte) ∉ ([0x41] : List Byte) ∧ (0xFF : Byte) ∉ ([0x41] : List Byte) := by decide
theorem witness_RoundTrip : storeWf (at' .check).store = true ∧ 1 ≤ ([0x41] : Message).length ∧ ([0x41] : Message).length ≤ 128 ∧
    (0x00 : Byte) ∉ ([0x41] : Message) ∧ (0xFF : Byte) ∉ ([0x41] : Message) ∧ ∃ t, exec (.storeSave [0x41]) (at' .check) = .next t :=
  ⟨rfl, by decide, by decide, by decide, by decide, _, rfl⟩
theorem witness_TornSave : storeWf [(0, 0x01), (1, 0x41), (2, 0x00)] = true ∧ 1 ≤ ([0x41, 0x42] : Message).length ∧
    ([0x41, 0x42] : Message).length ≤ 128 ∧ 1 ≤ 1 := by decide
theorem witness_StepRuns : ((at' .latch).started = true ∧ decode .seq [phaseCode (at' .latch).phase] = .ok .dlatch []) ∧
    State.reset.started = false := ⟨⟨rfl, rfl⟩, rfl⟩
theorem witness_reset_inv : State.reset.Inv Config.hw ∧ State.reset.HostOk Config.hw ∧ State.reset.started = false := by decide
theorem witness_reaches_one : ∃ t, (at' .rise).Reaches (0 + 1) t := ⟨_, rfl⟩
theorem witness_reaches_one_from_power_on : ∃ t, State.reset.Reaches (0 + 1) t :=
  ⟨_, (reaches_succ _ _ _).2 ⟨_, (step_unstarted _ rfl).trans (initMachine_hw _), (reaches_zero _ _).2 rfl⟩⟩
/-- A step inside a frame, from a running state. -/
theorem witness_step_in_frame : (at' .rise).Running Config.hw ∧ (at' .rise).phase ≠ .check ∧ (at' .rise).phase ≠ .frameEnd ∧
    ∃ t, step (at' .rise) = .next t := ⟨by decide, by decide, by decide, _, rfl⟩
/-- A step that changes the buffer, one that changes SDAT, one that changes SCLK, one that changes OUT and raises STRB. -/
theorem witness_changes :
    (∀ s ∈ [{ at' .check with offer := some [0x41] }], s.Running Config.hw ∧ nextHas (step s) (fun t => decide (t.msg ≠ s.msg)) = true) ∧
    (∀ s ∈ [{ at' .setup with bitcnt := 1 }], s.Running Config.hw ∧ nextHas (step s) (fun t => t.sdat != s.sdat) = true) ∧
    ((at' .rise).Running Config.hw ∧ nextHas (step (at' .rise)) (fun t => t.sclk) = true) ∧
    ∀ s ∈ [{ at' .latch with sr := 0x6043 }], s.Running Config.hw ∧ nextHas (step s) (fun t => decide (t.out ≠ s.out) && t.strb) = true := by
  decide
/-- Digit 2 and the fourth digit, held for 50 steps. -/
theorem witness_DigitHolds : { at' .begin with i := 2 }.Running Config.hw ∧ { at' .begin with i := 3 }.Running Config.hw ∧
    (50 < if (2 : BitVec 2) = 3 then 108 else 106) ∧ (50 < if (3 : BitVec 2) = 3 then 108 else 106) ∧
    (∃ t, { at' .begin with i := 2 }.Reaches 50 t) ∧ ∃ t, { at' .begin with i := 3 }.Reaches 50 t :=
  ⟨by decide, by decide, by decide, by decide, ⟨_, rfl⟩, ⟨_, rfl⟩⟩
/-- No replacement for one frame, for ten and for the 40 of a whole scroll, with a replacement waiting after them. -/
theorem witness_NoReplacement : ∀ p ∈ [(1, (9 : BitVec 4)), (10, 0), (40, 9)],
    ∀ s ∈ [{ at' .begin with loops := p.2, inputs := List.replicate p.1 [] ++ [[0x41]] }],
      s.Running Config.hw ∧ s.phase = .begin ∧ s.i = 0 ∧ s.NoReplacement p.1 ∧ (p.1 = 10 → s.loops = 0) ∧ 40 = 10 * s.len := by decide
theorem witness_Simultaneous : ∀ s ∈ [{ at' .frameEnd with loops := 9, offer := some [0x6F, 0x6B] }],
    s.Running Config.hw ∧ s.phase = .frameEnd ∧ s.offer = some [0x6F, 0x6B] := by decide
/-- A well-formed glyph exists under every font: BEL is blank. -/
theorem witness_WellFormedGlyph : { at' .begin with msg := [0x07] }.Running Config.hw ∧
    (translate Config.hw ({ at' .begin with msg := [0x07] }.charAt 0)).toNat ≤ 0x3FFF := by
  refine ⟨by decide, ?_⟩
  have hn : punctGlyph Config.hw 0x07 = none := by
    simp only [punctGlyph, Option.map_eq_none_iff, List.find?_eq_none]
    intro e he h
    have := (Config.hw_punct_facts.2.2 e he).2
    rw [eq_of_beq h] at this
    exact absurd this (by decide)
  have hc : ({ at' .begin with msg := [0x07] } : State).charAt 0 = 0x07 := rfl
  have ht : translate Config.hw 0x07 = punctOrBlank Config.hw 0x07 := rfl
  rw [hc, ht, punctOrBlank, hn]
  decide

end Sys2Proof.Tests
end

section
/-! The guards of the engine operations as equations: what an operation answers in a state that satisfies R33. -/

namespace Sys2Proof.Machine

/-- In its own phase the guarded operation runs (R140). -/
theorem enabled_of_phase {c : Config} {p : Phase} {s : State} (hr : s.SpecInvariants c) (hp : s.phase = p) (r : Result) :
    enabled c p s r = r := by
  rw [enabled, (invariantFault_eq_none c s).2 hr]
  exact if_pos hp

/-- In any other phase it is stuck by the name of the phase (R140, R237). -/
theorem enabled_of_phase_ne {c : Config} {p : Phase} {s : State} (hr : s.SpecInvariants c) (hp : s.phase ≠ p) (r : Result) :
    enabled c p s r = .fault .stuckPhase := by
  rw [enabled, (invariantFault_eq_none c s).2 hr]
  exact if_neg hp

@[simp] theorem require_false (f : Fault) (r : Result) : require false f r = .fault f := rfl

/-- The engine operations are those that some phase selects (R103). -/
theorem mem_engineRows_iff (i : Instr) : i ∈ engineRows ↔ ∃ p, phaseRow p = i := by
  constructor
  · intro h
    simp only [engineRows, List.mem_cons, List.not_mem_nil, or_false] at h
    rcases h with rfl | rfl | rfl | rfl | rfl | rfl | rfl | rfl
    exacts [⟨.check, rfl⟩, ⟨.begin, rfl⟩, ⟨.setup, rfl⟩, ⟨.rise, rfl⟩, ⟨.fall, rfl⟩, ⟨.latch, rfl⟩, ⟨.settle, rfl⟩,
      ⟨.frameEnd, rfl⟩]
  · rintro ⟨p, rfl⟩
    cases p <;> simp [engineRows, phaseRow]

/-- Where R33 holds, the operation of another phase is stuck (R140, R237). -/
theorem exec_phaseRow_of_phase_ne {s : State} {p : Phase} (hr : s.SpecInvariants Config.hw) (hp : s.phase ≠ p) :
    exec (phaseRow p) s = .fault .stuckPhase := by
  cases p <;> exact enabled_of_phase_ne hr hp _

theorem bfall_clock_low {c : Config} {s : State} (hr : s.SpecInvariants c) (hp : s.phase = .fall) (hc : s.sclk = false) :
    bfall c s = .fault .stuckClock := by
  rw [bfall, enabled_of_phase hr hp, hc, require_false]

theorem dlatch_bits_missing {c : Config} {s : State} (hr : s.SpecInvariants c) (hp : s.phase = .latch)
    (hb : lastBit c s = false) : dlatch c s = .fault .stuckBits := by
  rw [dlatch, enabled_of_phase hr hp, hb, require_false]

theorem dsettle_time_over {c : Config} {s : State} (hr : s.SpecInvariants c) (hp : s.phase = .settle)
    (hn : c.settleUnits ≤ s.settlecnt.toNat) : dsettle c s = .fault .stuckSettle := by
  rw [dsettle, enabled_of_phase hr hp, decide_eq_false (Nat.not_lt.2 hn), require_false]

/-- Settles O29: an operation of another phase stops at the guard; each of the three operations with a further precondition
passes the guard in its own phase and stops at that precondition. -/
theorem engineIsStuckWithoutItsPrecondition : Obligations.EngineIsStuckWithoutItsPrecondition := by
  unfold Obligations.EngineIsStuckWithoutItsPrecondition
  intro s hr
  refine ⟨fun i hi hne => ?_, fun hp hc => bfall_clock_low hr hp hc, fun hp hb => dlatch_bits_missing hr hp ?_,
    fun hp hn => dsettle_time_over hr hp hn⟩
  · obtain ⟨p, rfl⟩ := (mem_engineRows_iff i).1 hi
    exact exec_phaseRow_of_phase_ne hr fun hp => hne (by rw [hp])
  · rw [lastBit_hw, decide_eq_false hb]

end Sys2Proof.Machine
end

section
/-! The output lines: which line the operation of each phase drives, and that a step leaves the others as they are (R13, R26). -/

namespace Sys2Proof.Machine

/-- The line that the operation of a phase drives, if any (R143 to R153). -/
def Phase.drivenLine : Phase → Option Line
  | .setup => some .sdat
  | .rise | .fall => some .sclk
  | .begin | .latch => some .strb
  | .check | .settle | .frameEnd => none

theorem Phase.drivenLine_eq_sdat_iff (p : Phase) : p.drivenLine = some .sdat ↔ p = .setup := by
  cases p <;> simp [Phase.drivenLine]

variable (s : State) (l : Line)

/-- States with the same three lines have the same levels. -/
theorem State.level_congr {s t : State} (hd : t.sdat = s.sdat) (hc : t.sclk = s.sclk) (hb : t.strb = s.strb) (l : Line) :
    t.level l = s.level l := by
  cases l
  exacts [hd, hc, hb]

@[simp] theorem State.level_toPhase (p : Phase) : (s.toPhase p).level l = s.level l := State.level_congr rfl rfl rfl l

variable {l} in
theorem State.level_driveSdat_of_ne (h : l ≠ .sdat) (b : Bool) : (s.driveSdat b).level l = s.level l := by
  cases l
  exacts [absurd rfl h, rfl, rfl]

variable {l} in
theorem State.level_driveSclk_of_ne (h : l ≠ .sclk) (b : Bool) : (s.driveSclk b).level l = s.level l := by
  cases l
  exacts [rfl, absurd rfl h, rfl]

variable {l} in
theorem State.level_driveStrb_of_ne (h : l ≠ .strb) (b : Bool) : (s.driveStrb b).level l = s.level l := by
  cases l
  exacts [rfl, rfl, absurd rfl h]

@[simp] theorem State.level_gather (c : Config) : (s.gather c).level l = s.level l := by
  obtain ⟨inputs, offer, h⟩ := s.gather_eq c
  rw [h]
  exact State.level_congr rfl rfl rfl l

@[simp] theorem level_acceptOffer (m : Message) : (acceptOffer s m).level l = s.level l := State.level_congr rfl rfl rfl l

variable {s l} {t : State}

/-- An engine operation changes no line but the one that its phase drives. -/
theorem level_of_exec_phaseRow (h : exec (phaseRow s.phase) s = .next t) (hl : s.phase.drivenLine ≠ some l) :
    t.level l = s.level l := by
  cases hp : s.phase <;> rw [hp] at h hl
  case check =>
    obtain ⟨-, -, ⟨-, rfl⟩ | ⟨m, -, -, rfl⟩⟩ := (mcheck_next_iff Config.hw s t).1 h <;> simp
  case begin =>
    obtain ⟨-, -, ch, -, rfl⟩ := (dbegin_next_iff Config.hw s t).1 h
    rw [beginDigit, State.level_toPhase, State.level_driveStrb_of_ne _ fun e => hl (congrArg some e.symm)]
    exact State.level_congr rfl rfl rfl l
  case setup =>
    obtain ⟨-, -, rfl⟩ := (bset_next_iff Config.hw s t).1 h
    rw [State.level_toPhase, State.level_driveSdat_of_ne _ fun e => hl (congrArg some e.symm)]
  case rise =>
    obtain ⟨-, -, rfl⟩ := (brise_next_iff Config.hw s t).1 h
    rw [State.level_toPhase, State.level_driveSclk_of_ne _ fun e => hl (congrArg some e.symm)]
  case fall =>
    obtain ⟨-, -, -, rfl⟩ := (bfall_next_iff Config.hw s t).1 h
    have hne : l ≠ .sclk := fun e => hl (congrArg some e.symm)
    split
    · rw [State.level_toPhase, State.level_driveSclk_of_ne _ hne]
    · rw [State.level_toPhase, State.level_driveSclk_of_ne _ hne]
      exact State.level_congr rfl rfl rfl l
  case latch =>
    obtain ⟨-, -, -, rfl⟩ := (dlatch_next_iff Config.hw s t).1 h
    rw [State.level_toPhase, State.level_driveStrb_of_ne _ fun e => hl (congrArg some e.symm)]
    exact State.level_congr rfl rfl rfl l
  case settle =>
    obtain ⟨-, -, -, rfl⟩ := (dsettle_next_iff Config.hw s t).1 h
    split_ifs <;> exact State.level_congr rfl rfl rfl l
  case frameEnd =>
    obtain ⟨-, -, rfl⟩ := (fend_next_iff Config.hw s t).1 h
    rw [State.level_toPhase]
    split_ifs <;> exact State.level_congr rfl rfl rfl l

/-- Once INIT has run, a step changes no line but the one that its phase drives. -/
theorem level_of_step (hs : s.started = true) (h : step s = .next t) (hl : s.phase.drivenLine ≠ some l) :
    t.level l = s.level l :=
  level_of_exec_phaseRow (step_started s hs ▸ h) hl

/-- Where at most one given line changes, there is at most one line event. -/
theorem length_lineEvents_le_one {d : Option Line} (h : ∀ l, d ≠ some l → t.level l = s.level l) :
    (lineEvents s t).length ≤ 1 := by
  have keep : ∀ l, d ≠ some l → (s.level l != t.level l) = false := fun l hl => by simp [h l hl]
  rw [lineEvents, List.length_map, ← List.countP_eq_length_filter]
  calc List.countP (fun l => s.level l != t.level l) [.sdat, .sclk, .strb]
      ≤ List.countP (fun l => d = some l) [.sdat, .sclk, .strb] :=
        List.countP_mono_left fun l _ hne => by
          by_contra hl
          simp [keep l (by simpa using hl)] at hne
    _ ≤ 1 := by rcases d with _ | _ | _ | _ <;> decide

/-- Settles O49: a step changes at most the line that its phase drives; that is SDAT in SETUP only, where SCLK is low (R33) and is
not the driven line. -/
theorem eachStepMakesAtMostOneLineEvent : Obligations.EachStepMakesAtMostOneLineEvent := by
  unfold Obligations.EachStepMakesAtMostOneLineEvent
  intro s t hrun h
  have keep : ∀ l, s.phase.drivenLine ≠ some l → t.level l = s.level l := fun _ => level_of_step hrun.2 h
  refine ⟨length_lineEvents_le_one keep, fun hd => ?_⟩
  have hp : s.phase = .setup := s.phase.drivenLine_eq_sdat_iff.1 (by_contra fun hne => hd (keep .sdat hne))
  have hc : s.sclk = false := hrun.specInvariants.clock_low (by simp [hp])
  have hk : t.sclk = s.sclk := keep .sclk (by simp [hp, Phase.drivenLine])
  exact ⟨hp, hc, hk.trans hc⟩

end Sys2Proof.Machine
end

section
/-! The invariant of R33: it holds after power-on, INIT establishes its ranges, and the operation of each phase keeps it (10_state
R33). A running state has a step, and that step leads to a running state again. -/

namespace Sys2Proof.Machine

variable {s t : State}

/-! ### The parts of the invariant -/

/-- Before INIT the invariant asks for the host's duties alone. -/
theorem State.inv_of_unstarted (s : State) {c : Config} (ho : s.HostOk c) (hs : s.started = false) : s.Inv c :=
  ⟨ho, fun h => by simp [hs] at h⟩

/-- The four parts of a running state, each of which most operations leave as it is by the definition of the update. -/
theorem State.Running.intro {c : Config} (ho : s.HostOk c) (hr : s.InRanges c) (hp : s.readyForPhase c = true)
    (hs : s.started = true) : s.Running c := ⟨⟨ho, fun _ => ⟨hr, hp⟩⟩, hs⟩

theorem State.Running.hostOk {c : Config} (h : s.Running c) : s.HostOk c := h.1.1

/-- An installed message brings the ranges with it (R153, R200). -/
theorem State.inRanges_install (s : State) {m : Message} (hv : validMsg Config.hw m = true) : (s.install m).InRanges Config.hw := by
  obtain ⟨h1, h128⟩ := (validMsg_hw m).1 hv
  exact ⟨h1, h128, h1, (by decide : (0 : BitVec 4).toNat < 10)⟩

/-- The window offset advances within the message (R152). -/
theorem toNat_nextOffset_lt (j : Nat) {len : Nat} (h1 : 1 ≤ len) : (BitVec.ofNat 7 ((j + 1) % len)).toNat < len :=
  calc (BitVec.ofNat 7 ((j + 1) % len)).toNat ≤ (j + 1) % len := by
        rw [BitVec.toNat_ofNat]
        exact Nat.mod_le _ _
    _ < len := Nat.mod_lt _ h1

/-- A counter that has not reached `n` stays at or below it (R23, R25). -/
theorem toNat_add_one_lt {w n : Nat} {x : BitVec w} (hx : x.toNat < n + 1) (hne : x.toNat ≠ n) : (x + 1).toNat < n + 1 :=
  calc (x + 1).toNat ≤ x.toNat + 1 := by
        rw [BitVec.toNat_add]
        exact (Nat.mod_le _ _).trans (Nat.add_le_add_left (Nat.mod_le _ _) _)
    _ < n + 1 := Nat.succ_lt_succ (lt_of_le_of_ne (Nat.le_of_lt_succ hx) hne)

/-! ### The check -/

theorem hostOk_acceptOffer {c : Config} (m : Message) (ho : s.HostOk c) : (acceptOffer s m).HostOk c :=
  ⟨storeWf_saveRecord s.store m ho.1, rfl⟩

/-- The gathering of input keeps a state running (R213). -/
theorem State.Running.gather {c : Config} (h : s.Running c) : (s.gather c).Running c := by
  have ho := s.gather_hostOk c h.hostOk
  obtain ⟨inputs, offer, hg⟩ := s.gather_eq c
  rw [hg] at ho ⊢
  exact .intro ho (h.1.2 h.2).1 (h.1.2 h.2).2 h.2

/-- With the clock low, a running state is ready for DBEGIN (R143). -/
theorem State.Running.toPhase_begin (h : s.Running Config.hw) (hc : s.sclk = false) :
    (s.toPhase .begin).Running Config.hw :=
  .intro h.hostOk h.specInvariants.1 (by simp [State.readyForPhase, hc]) h.2

/-- A valid offer, once accepted, leaves a state that is ready for DBEGIN (R153). -/
theorem State.Running.acceptOffer_toPhase_begin (h : s.Running Config.hw) (hc : s.sclk = false) {m : Message}
    (hv : validMsg Config.hw m = true) : ((acceptOffer s m).toPhase .begin).Running Config.hw :=
  .intro (hostOk_acceptOffer m h.hostOk) (s.inRanges_install hv) (by simp [State.readyForPhase, acceptOffer, hc]) h.2

theorem State.Running.step_check_running (h : s.Running Config.hw) (hp : s.phase = .check) :
    ∃ t, step s = .next t ∧ t.Running Config.hw := by
  have hr := h.specInvariants
  have hg := h.gather
  have hc : (s.gather Config.hw).sclk = false :=
    (s.level_gather .sclk Config.hw).trans (hr.clock_low (by simp [hp]))
  refine ⟨_, step_check h.2 hr hp h.hostOk, ?_⟩
  split
  · exact hg.toPhase_begin hc
  · next m hm => exact hg.acceptOffer_toPhase_begin hc (by simpa [hm] using hg.hostOk.2)

/-! ### The end of a frame -/

/-- FEND keeps `j` below `len` and `loops` below FRAME_THRESHOLD (R152). -/
theorem State.Running.step_frameEnd_running (h : s.Running Config.hw) (hp : s.phase = .frameEnd) :
    ∃ t, step s = .next t ∧ t.Running Config.hw := by
  have hr := h.specInvariants
  obtain ⟨hmin, hmax, hj, hloops⟩ := (s.inRanges_hw).1 hr.1
  have hc : s.sclk = false := hr.clock_low (by simp [hp])
  have hi : s.i = 0 := hr.2.1.2 (.inr hp)
  by_cases hn : s.loops = 9
  · exact ⟨_, step_frameEnd_due h.2 hr hp hn, .intro h.hostOk
      ⟨hmin, hmax, toNat_nextOffset_lt s.j.toNat hmin, (by decide : (0 : BitVec 4).toNat < 10)⟩
      (by simp [State.readyForPhase, hc, hi]) h.2⟩
  · have hlt : (s.loops + 1).toNat < 10 := toNat_add_one_lt hloops fun e => hn (BitVec.eq_of_toNat_eq e)
    exact ⟨_, step_frameEnd_more h.2 hr hp hn, .intro h.hostOk ⟨hmin, hmax, hj, hlt⟩
      (by simp [State.readyForPhase, hc, hi]) h.2⟩

/-! ### The settle time -/

/-- DSETTLE keeps `settlecnt` below SETTLE_UNITS, and the frame ends with `i` at 0 (R150). -/
theorem State.Running.step_settle_running (h : s.Running Config.hw) (hp : s.phase = .settle)
    (hn : s.settlecnt.toNat < 6) : ∃ t, step s = .next t ∧ t.Running Config.hw := by
  have hr := h.specInvariants
  have hc : s.sclk = false := hr.clock_low (by simp [hp])
  by_cases h5 : s.settlecnt = 5
  · refine ⟨_, step_settle_last h.2 hr hp h5, .intro h.hostOk hr.1 ?_ h.2⟩
    by_cases hi : s.i = 3
    · rw [if_pos hi]
      simp [State.readyForPhase, hi, hc]
    · rw [if_neg hi]
      simp [State.readyForPhase, hc]
  · have hne : s.settlecnt.toNat ≠ 5 := fun e => h5 (BitVec.eq_of_toNat_eq e)
    have hlt : s.settlecnt.toNat < 5 := by omega
    have hadd : (s.settlecnt + 1).toNat < 6 := toNat_add_one_lt hn hne
    exact ⟨_, step_settle_more h.2 hr hp hlt, .intro h.hostOk hr.1
      (by simpa [State.readyForPhase, hp, hc, hr.strobe_high hp] using hadd) h.2⟩

/-! ### Every phase -/

/-- A running state has a step, and it leads to a running state: INIT's ranges and the preconditions of R143 to R153 hold again. -/
theorem State.Running.step_running (h : s.Running Config.hw) : ∃ t, step s = .next t ∧ t.Running Config.hw := by
  have hr := h.specInvariants
  have keep : ∀ {u : State}, step s = .next u → u.HostOk Config.hw → u.InRanges Config.hw → u.started = true →
      u.readyForPhase Config.hw = true → ∃ t, step s = .next t ∧ t.Running Config.hw :=
    fun hu ho hrg hs hrd => ⟨_, hu, .intro ho hrg hrd hs⟩
  rcases running_cases h with ⟨hp, -⟩ | ⟨hp, hc⟩ | ⟨hp, hc, hb⟩ | ⟨hp, hc, hb⟩ | ⟨hp, hc, hb⟩ | ⟨hp, hc, hb, hn⟩ |
    ⟨hp, -, -, hn⟩ | ⟨hp, -⟩
  · exact h.step_check_running hp
  · exact keep (step_begin h.2 hr hp) h.hostOk hr.1 h.2 (by simp [State.readyForPhase, hc])
  · exact keep (step_setup h.2 hr hp) h.hostOk hr.1 h.2 (by simp [State.readyForPhase, hc, hb])
  · exact keep (step_rise h.2 hr hp) h.hostOk hr.1 h.2 (by simp [State.readyForPhase, hb])
  · by_cases hn : s.bitcnt = 15
    · exact keep (step_fall_last h.2 hr hp hc hn) h.hostOk hr.1 h.2 (by simp [State.readyForPhase, hb, hn])
    · exact keep (step_fall_more h.2 hr hp hc hn) h.hostOk hr.1 h.2 (by simp [State.readyForPhase, hb])
  · exact keep (step_latch h.2 hr hp hn) h.hostOk hr.1 h.2 (by simp [State.readyForPhase, hc])
  · exact h.step_settle_running hp hn
  · exact h.step_frameEnd_running hp

/-- INIT leaves a running state, whatever the registers held before it (R33, R200). -/
theorem step_unstarted_running (ho : s.HostOk Config.hw) (hs : s.started = false) :
    ∃ t, step s = .next t ∧ t.Running Config.hw :=
  ⟨_, (step_unstarted s hs).trans (initMachine_hw s),
    .intro ho (s.inRanges_install (loadRecord_valid s.store)) (by simp [State.readyForPhase]) rfl⟩

/-- Every state that meets the invariant has a step, and it leads to a running state (R159). -/
theorem State.Inv.step_running (h : s.Inv Config.hw) : ∃ t, step s = .next t ∧ t.Running Config.hw := by
  cases hs : s.started
  · exact step_unstarted_running h.1 hs
  · exact State.Running.step_running ⟨h, hs⟩

/-- The step is a function, so the state it gives is the running one. -/
theorem State.Inv.running_of_step (h : s.Inv Config.hw) (hst : step s = .next t) : t.Running Config.hw := by
  obtain ⟨u, hu, hrun⟩ := h.step_running
  obtain rfl : u = t := (next_eq_next t u).1 (hst.symm.trans hu)
  exact hrun

/-- A run of any length keeps a state running. -/
theorem State.Running.of_reaches (h : s.Running Config.hw) {n : Nat} (hn : s.Reaches n t) : t.Running Config.hw := by
  induction n generalizing s with
  | zero => exact (reaches_zero s t).1 hn ▸ h
  | succ n ih =>
    obtain ⟨u, hu, hut⟩ := (reaches_succ s t n).1 hn
    exact ih (h.1.running_of_step hu) hut

/-- Settles O44: INIT establishes the ranges and the operation of each phase leaves what the next phase's precondition asks. -/
theorem stepKeepsTheInvariant : Obligations.StepKeepsTheInvariant := by
  unfold Obligations.StepKeepsTheInvariant
  intro s t h hst
  exact (h.running_of_step hst).1

/-- Settles O46: the first step is INIT and leaves a running state, every further step keeps it running, and a running state
satisfies R33. -/
theorem reachableStatesMeetTheSpecInvariants : Obligations.ReachableStatesMeetTheSpecInvariants := by
  unfold Obligations.ReachableStatesMeetTheSpecInvariants
  intro s t n ho hs hn
  obtain ⟨u, hu, hut⟩ := (reaches_succ s t n).1 hn
  exact (((s.inv_of_unstarted ho hs).running_of_step hu).of_reaches hut).specInvariants

/-- Settles O43: INIT has not run, so only the host's duties are asked; the store is empty and nothing is offered. -/
theorem powerOnMeetsTheInvariant : Obligations.PowerOnMeetsTheInvariant := by
  unfold Obligations.PowerOnMeetsTheInvariant
  exact ⟨State.reset.inv_of_unstarted ⟨rfl, rfl⟩ rfl, rfl⟩

end Sys2Proof.Machine
end

section
/-! Outside R33: which invariant the guard finds broken first, and that every engine operation stops there by that name (20_memory
R69, 60_exceptions R232 b). -/

namespace Sys2Proof.Machine

variable {s : State}

/-! ### The guard, invariant by invariant -/

theorem invariantFault_of_len (h : s.len = 0 ∨ 128 < s.len) : invariantFault Config.hw s = some .stuckLength :=
  if_pos (by simpa [Nat.lt_one_iff] using h)

theorem invariantFault_of_offset (hmin : 1 ≤ s.len) (hmax : s.len ≤ 128) (h : s.len ≤ s.j.toNat) :
    invariantFault Config.hw s = some .stuckOffset := by
  have hlen : ¬ (s.len = 0 ∨ 128 < s.len) := by omega
  simp [invariantFault, hlen, h]

theorem invariantFault_of_loops (hmin : 1 ≤ s.len) (hmax : s.len ≤ 128) (hj : s.j.toNat < s.len) (h : 10 ≤ s.loops.toNat) :
    invariantFault Config.hw s = some .stuckLoops := by
  have hlen : ¬ (s.len = 0 ∨ 128 < s.len) := by omega
  simp [invariantFault, hlen, Nat.not_le.2 hj, h]

/-- With `len`, `j` and `loops` in range the guard goes on to the digit and the lines; `bitcnt` has no value above 15. -/
theorem invariantFault_of_inRanges (h : s.InRanges Config.hw) : invariantFault Config.hw s =
    if !digitOk Config.hw s then some .stuckDigit
    else if s.sclk && !decide (s.phase = .fall) then some .stuckClock
    else if !strobeOk s then some .stuckStrobe else none := by
  obtain ⟨hmin, hmax, hj, hloops⟩ := s.inRanges_hw.1 h
  have hlen : ¬ (s.len = 0 ∨ 128 < s.len) := by omega
  have hbits : ¬ 15 < s.bitcnt.toNat := Nat.not_lt.2 (Nat.le_of_lt_succ s.bitcnt_lt)
  simp [invariantFault, hlen, Nat.not_le.2 hj, Nat.not_le.2 hloops, hbits]

/-- The two bits of `i` hold a digit position only, so R33 restricts it in CHECK and FRAMEEND alone. -/
theorem digitOk_hw_iff : digitOk Config.hw s = true ↔ (s.phase = .check ∨ s.phase = .frameEnd → s.i = 0) := by
  have hi : s.i.toNat ≤ 3 := Nat.le_of_lt_succ s.i_lt
  simp [digitOk, hi, imp_iff_not_or]

theorem invariantFault_of_digit (h : s.InRanges Config.hw) (hp : s.phase = .check ∨ s.phase = .frameEnd) (hi : s.i ≠ 0) :
    invariantFault Config.hw s = some .stuckDigit := by
  have hd : digitOk Config.hw s = false := Bool.eq_false_iff.2 fun hd => hi (digitOk_hw_iff.1 hd hp)
  simp [invariantFault_of_inRanges h, hd]

theorem invariantFault_of_clock (h : s.InRanges Config.hw) (hcheck : s.phase ≠ .check) (hend : s.phase ≠ .frameEnd)
    (hfall : s.phase ≠ .fall) (hc : s.sclk = true) : invariantFault Config.hw s = some .stuckClock := by
  have hd : digitOk Config.hw s = true := digitOk_hw_iff.2 (by simp [hcheck, hend])
  simp [invariantFault_of_inRanges h, hd, hc, hfall]

/-- In the phases in which R33 gives STRB a level, the guard reaches STRB once SCLK is as R33 has it. -/
theorem invariantFault_of_strobe (h : s.InRanges Config.hw) (hc : s.phase = .fall ∨ s.sclk = false)
    (hb : strobeOk s = false) : invariantFault Config.hw s = some .stuckStrobe := by
  have hd : digitOk Config.hw s = true := digitOk_hw_iff.2 fun hp => by
    rcases hp with hp | hp <;> simp [strobeOk, hp] at hb
  have hclock : (s.sclk && !decide (s.phase = .fall)) = false := by
    rcases hc with hc | hc <;> simp [hc]
  simp [invariantFault_of_inRanges h, hd, hclock, hb]

theorem strobeOk_of_high (hp : s.phase = .setup ∨ s.phase = .rise ∨ s.phase = .fall ∨ s.phase = .latch) (hb : s.strb = true) :
    strobeOk s = false := by
  rcases hp with hp | hp | hp | hp <;> simp [strobeOk, hp, hb]

theorem strobeOk_of_settle_low (hp : s.phase = .settle) (hb : s.strb = false) : strobeOk s = false := by
  simp [strobeOk, hp, hb]

/-! ### The operations stop where the guard does -/

/-- What the guard finds is the operation's stop, whatever the phase. -/
theorem enabled_of_invariantFault {c : Config} {f : Fault} (h : invariantFault c s = some f) (p : Phase) (r : Result) :
    enabled c p s r = .fault f := by
  rw [enabled, h]

theorem exec_phaseRow_of_invariantFault {f : Fault} (h : invariantFault Config.hw s = some f) (p : Phase) :
    exec (phaseRow p) s = .fault f := by
  cases p <;> exact enabled_of_invariantFault h _ _

/-- A state outside R33 breaks an invariant that the guard names. -/
theorem exists_invariantFault {c : Config} (h : ¬ s.SpecInvariants c) : ∃ f, invariantFault c s = some f :=
  Option.ne_none_iff_exists'.1 fun hn => h ((invariantFault_eq_none c s).1 hn)

/-- Settles O28: the engine operations share one guard, so the name of the stop is that of the first invariant the guard finds
broken; once INIT has run, a step is one of these operations. -/
theorem engineIsStuckOutsideTheRanges : Obligations.EngineIsStuckOutsideTheRanges := by
  unfold Obligations.EngineIsStuckOutsideTheRanges
  refine ⟨fun s i hi => ?_, fun s hs hn => ?_⟩
  · obtain ⟨p, rfl⟩ := (mem_engineRows_iff i).1 hi
    have stop : ∀ {f : Fault}, invariantFault Config.hw s = some f → exec (phaseRow p) s = .fault f :=
      fun hf => exec_phaseRow_of_invariantFault hf p
    exact ⟨fun hn => (exists_invariantFault hn).imp fun _ hf => stop hf,
      fun h => stop (invariantFault_of_len h),
      fun hmin hmax h => stop (invariantFault_of_offset hmin hmax h),
      fun hmin hmax hj h => stop (invariantFault_of_loops hmin hmax hj h),
      fun h hp h0 => stop (invariantFault_of_digit h hp h0),
      fun h hcheck hend hfall hc => stop (invariantFault_of_clock h hcheck hend hfall hc),
      fun h hc hp hb => stop (invariantFault_of_strobe h hc (strobeOk_of_high hp hb)),
      fun h hc hp hb => stop (invariantFault_of_strobe h (.inr hc) (strobeOk_of_settle_low hp hb))⟩
  · rw [step_started s hs]
    exact (exists_invariantFault hn).imp fun _ hf => exec_phaseRow_of_invariantFault hf s.phase

end Sys2Proof.Machine
end

section
/-! The encodings: for each format the equations of its decoder, and what the rows it answers encode to (30_encoding R90 to R104). -/

namespace Sys2Proof

open Machine

variable (rest : List Byte)

/-! ### The decoder of each format on a word of its extent -/

theorem decode_char8_cons (ch : Byte) : decode .char8 (ch :: rest) = .ok (charRow Config.hw ch) rest := rfl

theorem decode_txword_cons (hi lo : Byte) :
    decode .txword (hi :: lo :: rest) = .ok (wordRow Config.hw (hi ++ lo)) rest := rfl

theorem decode_seq_cons (b : Byte) :
    decode .seq (b :: rest) = if b.toNat < 8 then .ok (phaseRow (phaseOf b)) rest else .bad .badPhase := rfl

theorem decode_storerec_cons (len : Byte) : decode .storerec (len :: rest) = decodeRecord Config.hw len rest := rfl

/-! ### CHAR8 (R91, R93) -/

/-- Outside the three ranges the punctuation mapping alone chooses the row. -/
theorem charRow_of_not_alnum {ch : Byte} (h : isAlnum ch = false) (c : Config) :
    charRow c ch = if inPunct c ch then .glyphPunct ch else .glyphBlank ch := by
  simp only [isAlnum, Bool.or_eq_false_iff] at h
  obtain ⟨⟨hd, hl⟩, hu⟩ := h
  simp [charRow, hd, hl, hu]

/-- No control character is in the punctuation mapping (R93, D18). -/
theorem inPunct_of_control {ch : Byte} (h : isControl ch = true) : inPunct Config.hw ch = false := by
  rw [inPunct, List.any_eq_false]
  intro e he heq
  have hc := (Config.hw_punct_facts.2.2 e he).2
  rw [eq_of_beq heq, h] at hc
  cases hc

theorem wellFormed_glyphPunct (ch : Byte) :
    wellFormed (.glyphPunct ch) = true ↔ isAlnum ch = false ∧ inPunct Config.hw ch = true := by
  simp [wellFormed, wellFormedWith]

theorem wellFormed_glyphBlank (ch : Byte) :
    wellFormed (.glyphBlank ch) = true ↔ isAlnum ch = false ∧ inPunct Config.hw ch = false := by
  simp [wellFormed, wellFormedWith]

theorem isDigit_iff (ch : Byte) : isDigit ch = true ↔ 0x30 ≤ ch.toNat ∧ ch.toNat ≤ 0x39 := by simp [isDigit]

theorem isLower_iff (ch : Byte) : isLower ch = true ↔ 0x61 ≤ ch.toNat ∧ ch.toNat ≤ 0x7A := by simp [isLower]

theorem isUpper_iff (ch : Byte) : isUpper ch = true ↔ 0x41 ≤ ch.toNat ∧ ch.toNat ≤ 0x5A := by simp [isUpper]

/-- In a table of `n` rows whose codes begin at `lo`, the row that a code of that range chooses has this code as its word. -/
theorem tableRow_word {row : Nat → Instr} {lo n : Nat} (hrow : ∀ k < n, encode (row k) = [BitVec.ofNat 8 (lo + k)] ∧
    formatOf (row k) = .char8 ∧ wellFormed (row k) = true) {ch : Byte} (hlo : lo ≤ ch.toNat) (hhi : ch.toNat < lo + n) :
    encode (row (ch.toNat - lo)) = [ch] ∧ formatOf (row (ch.toNat - lo)) = .char8 ∧
      wellFormed (row (ch.toNat - lo)) = true := by
  obtain ⟨hbytes, hrest⟩ := hrow (ch.toNat - lo) (by omega)
  refine ⟨?_, hrest⟩
  rw [hbytes, Nat.add_sub_cancel' hlo, BitVec.ofNat_toNat, BitVec.setWidth_eq]

/-- The row of a code is a well-formed CHAR8 row whose word is that code. -/
theorem charRow_word (ch : Byte) : encode (charRow Config.hw ch) = [ch] ∧
    formatOf (charRow Config.hw ch) = .char8 ∧ wellFormed (charRow Config.hw ch) = true := by
  by_cases ha : isAlnum ch = true
  · simp only [isAlnum, Bool.or_eq_true] at ha
    unfold charRow
    split
    · rename_i hd
      exact tableRow_word digitRow_word ((isDigit_iff ch).1 hd).1 (Nat.lt_succ_of_le ((isDigit_iff ch).1 hd).2)
    · split
      · rename_i hl
        exact tableRow_word lowerRow_word ((isLower_iff ch).1 hl).1 (Nat.lt_succ_of_le ((isLower_iff ch).1 hl).2)
      · rename_i hd hl
        have hu : isUpper ch = true := by simpa [hd, hl] using ha
        rw [if_pos hu]
        exact tableRow_word upperRow_word ((isUpper_iff ch).1 hu).1 (Nat.lt_succ_of_le ((isUpper_iff ch).1 hu).2)
  · rw [Bool.not_eq_true] at ha
    rw [charRow_of_not_alnum ha]
    split
    · rename_i hp
      exact ⟨rfl, rfl, (wellFormed_glyphPunct ch).2 ⟨ha, hp⟩⟩
    · rename_i hp
      exact ⟨rfl, rfl, (wellFormed_glyphBlank ch).2 ⟨ha, Bool.eq_false_iff.2 hp⟩⟩

/-! ### TXWORD (R95, R96) -/

/-- The row of a word is a TXWORD row whose word is that word, its high byte first. -/
theorem wordRow_word (w : TxWord) : encode (wordRow Config.hw w) = wordBytes w ∧
    formatOf (wordRow Config.hw w) = .txword ∧ wellFormed (wordRow Config.hw w) = true := by
  have hw := txWord_dselOf_segOf w
  unfold wordRow
  generalize segOf Config.hw w = seg at hw ⊢
  generalize dselOf Config.hw w = d at hw ⊢
  subst hw
  fin_cases d <;> exact ⟨rfl, rfl, rfl⟩

/-- The two bytes of a word are read back as the row of the word. -/
theorem decode_wordBytes (w : TxWord) : decode .txword (wordBytes w ++ rest) = .ok (wordRow Config.hw w) rest := by
  show Decoded.ok (wordRow Config.hw (w.extractLsb' 8 8 ++ w.extractLsb' 0 8 : BitVec 16)) rest = _
  rw [append_wordBytes]

/-! ### SEQ (R103) -/

/-- The operation of a phase is a SEQ row whose word is the phase's code. -/
theorem phaseRow_word (p : Phase) : encode (phaseRow p) = [phaseCode p] ∧ formatOf (phaseRow p) = .seq ∧
    wellFormed (phaseRow p) = true := by
  cases p <;> exact ⟨rfl, rfl, rfl⟩

/-- A byte below 8 is the code of its phase. -/
theorem phaseCode_phaseOf {b : Byte} (h : b.toNat < 8) : phaseCode (phaseOf b) = b := by
  have codes : ∀ n < 8, phaseCode (phaseOf (BitVec.ofNat 8 n)) = BitVec.ofNat 8 n := by decide
  simpa using codes b.toNat h

/-! ### STOREREC (R99, R100) -/

theorem any_isTerminator (chars : List Byte) : chars.any isTerminator = true ↔ 0x00 ∈ chars ∨ 0xFF ∈ chars := by
  simp only [List.any_eq_true, isTerminator, Bool.or_eq_true, decide_eq_true_eq, and_or_left, exists_or, exists_eq_right]

/-- The test of a record's length that the decoder and STORE_LOAD share, as a proposition. -/
theorem length_out_of_range_iff (n : Nat) : (n < 1 || 128 < n) = true ↔ n = 0 ∨ 128 < n := by
  simp only [Bool.or_eq_true, decide_eq_true_eq, Nat.lt_one_iff]

theorem wellFormed_storerec (len : Byte) (chars : List Byte) (term : Byte) : wellFormed (.storerec len chars term) = true ↔
    chars.length = len.toNat ∧ ¬ (len.toNat = 0 ∨ 128 < len.toNat) ∧ ¬ (0x00 ∈ chars ∨ 0xFF ∈ chars) := by
  rw [← any_isTerminator, Bool.not_eq_true]
  simp only [wellFormed, wellFormedWith, Bool.and_eq_true, decide_eq_true_eq, Bool.not_eq_true']
  have hlen : 1 ≤ len.toNat ∧ len.toNat ≤ 128 ↔ ¬ (len.toNat = 0 ∨ 128 < len.toNat) := by omega
  rw [← hlen]
  tauto

/-- The decoder on a record of the extent that its first byte gives: the length is judged first, then the characters, and the
byte after them never (D20). -/
theorem decodeRecord_append {len : Byte} {chars : List Byte} (h : chars.length = len.toNat) (term : Byte) :
    decodeRecord Config.hw len (chars ++ term :: rest) =
      if len.toNat = 0 ∨ 128 < len.toNat then .bad .badLength
      else if 0x00 ∈ chars ∨ 0xFF ∈ chars then .bad .badChar else .ok (.storerec len chars term) rest := by
  have hlong : ¬ (chars ++ term :: rest).length < len.toNat + 1 := by simp [h]
  rw [decodeRecord, if_neg hlong, List.take_left' h, List.drop_left' h]
  simp only [Config.hw_msgMin, Config.hw_msgMax, length_out_of_range_iff, any_isTerminator]

/-- A record that decodes is complete: its characters, one further byte, and what follows it. -/
theorem exists_append_of_decodeRecord {len : Byte} {bytes : List Byte} {i : Instr}
    (h : decodeRecord Config.hw len bytes = .ok i rest) :
    ∃ chars term tail, chars.length = len.toNat ∧ bytes = chars ++ term :: tail := by
  have hlen : len.toNat + 1 ≤ bytes.length := by
    by_contra hshort
    unfold decodeRecord at h
    simp only [Nat.not_le.1 hshort, if_true] at h
    split at h <;> cases h
  exact ⟨bytes.take len.toNat, bytes[len.toNat], bytes.drop (len.toNat + 1), by simp; omega, by simp⟩

/-- What a record decodes to is the well-formed row of its own bytes. -/
theorem decodeRecord_eq_ok {len : Byte} {bytes : List Byte} {i : Instr} (h : decodeRecord Config.hw len bytes = .ok i rest) :
    ∃ chars term, i = .storerec len chars term ∧ wellFormed i = true ∧ bytes = chars ++ term :: rest := by
  obtain ⟨chars, term, tail, hlen, rfl⟩ := exists_append_of_decodeRecord rest h
  rw [decodeRecord_append tail hlen] at h
  split at h
  · cases h
  · rename_i hrange
    split at h
    · cases h
    · rename_i hchars
      cases h
      exact ⟨chars, term, rfl, (wellFormed_storerec ..).2 ⟨hlen, hrange, hchars⟩, rfl⟩

/-! ### The statements about the decoder and the encoder -/

/-- Settles O1, row by row: the codes of the tables and of the phases are constants; the rows with an operand are read back by
the laws of their format. -/
theorem encodedRowsDecodeToThemselves : Obligations.EncodedRowsDecodeToThemselves := by
  unfold Obligations.EncodedRowsDecodeToThemselves
  intro i rest hwf hf
  cases i with
  | glyphPunct ch =>
    obtain ⟨ha, hp⟩ := (wellFormed_glyphPunct ch).1 hwf
    show decode .char8 (ch :: rest) = _
    rw [decode_char8_cons, charRow_of_not_alnum ha, if_pos hp]
  | glyphBlank ch =>
    obtain ⟨ha, hp⟩ := (wellFormed_glyphBlank ch).1 hwf
    show decode .char8 (ch :: rest) = _
    rw [decode_char8_cons, charRow_of_not_alnum ha, hp]
    rfl
  | txwordD0 seg | txwordD1 seg | txwordD2 seg | txwordD3 seg =>
    exact (decode_wordBytes rest _).trans (by rw [wordRow, dselOf_txWord, segOf_txWord]; rfl)
  | storerec len chars term =>
    obtain ⟨hlen, hrange, hchars⟩ := (wellFormed_storerec ..).1 hwf
    show decode .storerec (len :: ((chars ++ [term]) ++ rest)) = _
    rw [decode_storerec_cons, List.append_assoc]
    exact (decodeRecord_append rest hlen term).trans ((if_neg hrange).trans (if_neg hchars))
  | chainShift | chainLatchout | translate | index | pack | init | offer | storeLoad | storeSave | accumulate =>
    simp [formatOf] at hf
  | _ => rfl

/-- Settles O2, format by format: a decoder answers the row of the word it read, and that row's word is the one read. -/
theorem decodedRowsEncodeToTheBytesRead : Obligations.DecodedRowsEncodeToTheBytesRead := by
  unfold Obligations.DecodedRowsEncodeToTheBytesRead
  intro f bytes rest i h
  match f, bytes with
  | .char8, ch :: tail =>
    cases h
    obtain ⟨hbytes, hformat, hwf⟩ := charRow_word ch
    exact ⟨hformat, hwf, by rw [hbytes]; rfl⟩
  | .txword, hi :: lo :: tail =>
    cases h
    obtain ⟨hbytes, hformat, hwf⟩ := wordRow_word (hi ++ lo)
    exact ⟨hformat, hwf, by rw [hbytes, wordBytes_append]; rfl⟩
  | .seq, b :: tail =>
    rw [decode_seq_cons] at h
    split at h
    · rename_i hb
      cases h
      obtain ⟨hbytes, hformat, hwf⟩ := phaseRow_word (phaseOf b)
      exact ⟨hformat, hwf, by rw [hbytes, phaseCode_phaseOf hb]; rfl⟩
    · cases h
  | .storerec, len :: tail =>
    obtain ⟨chars, term, rfl, hwf, rfl⟩ := decodeRecord_eq_ok rest h
    exact ⟨rfl, hwf, by simp [encode]⟩
  | .char8, [] | .txword, [] | .txword, [_] | .seq, [] | .storerec, [] | .chain, _ | .func, _ | .host, _ => cases h

/-- Settles O3: the decoders of CHAR8 and TXWORD answer for every word, that of SEQ for every code of a phase, and a record is
judged by its length and its characters only. -/
theorem onlyRecordsHaveInvalidEncodings : Obligations.OnlyRecordsHaveInvalidEncodings := by
  unfold Obligations.OnlyRecordsHaveInvalidEncodings
  refine ⟨fun ch rest => ⟨_, decode_char8_cons rest ch⟩, fun hi lo rest => ⟨_, decode_txword_cons rest hi lo⟩,
    fun b rest hb => ⟨phaseRow (phaseOf b), (mem_engineRows_iff _).2 ⟨_, rfl⟩, ?_⟩,
    fun len chars rest term hlen => ?_, fun bytes => ⟨rfl, rfl, rfl⟩⟩
  · rw [decode_seq_cons, if_pos hb]
  · simp only [List.cons_append, decode_storerec_cons, decodeRecord_append rest hlen]
    refine ⟨fun hbad => if_pos hbad, fun hmin hmax hbad => ?_, fun hmin hmax h0 h1 => ?_⟩
    · rw [if_neg (by omega), if_pos hbad]
    · rw [if_neg (by omega), if_neg (not_or.2 ⟨h0, h1⟩)]

/-- Settles O4: the words evaluate to their rows; that BEL is blank needs that no control character is in the mapping. -/
theorem writtenWordsDecode : Obligations.WrittenWordsDecode := by
  unfold Obligations.WrittenWordsDecode
  refine ⟨rfl, rfl, rfl, ?_, rfl, rfl, rfl, rfl, rfl⟩
  rw [decode_char8_cons, charRow_of_not_alnum (by decide), inPunct_of_control (by decide)]
  rfl

end Sys2Proof
end

section
/-! The rows INDEX, PACK, TXWORD and STOREREC: what each answers (30_encoding R95 to R100). -/

namespace Sys2Proof.Machine

/-! ### The row STOREREC (R99, R204) -/

/-- The first byte of the record, and below the characters after it. -/
theorem storeRead_recordStore_zero (len : Byte) (chars : List Byte) (term : Byte) :
    storeRead (recordStore len chars term) 0 = len := by
  simp [recordStore, storeRead_writeFrom _ [] 0 0 rfl]

theorem storeReadFrom_recordStore (len : Byte) (chars : List Byte) (term : Byte) :
    storeReadFrom (recordStore len chars term) 1 chars.length = chars := by
  apply List.ext_getElem?
  intro k
  rw [storeReadFrom_getElem?]
  split
  · rename_i hk
    rw [recordStore, storeRead_writeFrom _ [] 0 _ rfl, Nat.add_comm 1 k]
    simp [List.getElem?_append_left hk, hk]
  · rename_i hk
    rw [List.getElem?_eq_none (Nat.not_lt.1 hk)]

/-- The message that a record of the extent its first byte gives stands for. -/
theorem loadRecord_recordStore {len : Byte} {chars : List Byte} (h : chars.length = len.toNat) (term : Byte) :
    loadRecord Config.hw (recordStore len chars term) =
      if len.toNat = 0 ∨ 128 < len.toNat then Config.hw.defaultMsg
      else if 0x00 ∈ chars ∨ 0xFF ∈ chars then Config.hw.defaultMsg else chars := by
  simp only [loadRecord, storeRead_recordStore_zero, ← h, storeReadFrom_recordStore, Config.hw_msgMin, Config.hw_msgMax,
    length_out_of_range_iff, any_isTerminator]

/-- Settles O38: the store that holds exactly the record reads back as its length and its characters, which STORE_LOAD judges. -/
theorem storerecRowAnswersItsMessage : Obligations.StorerecRowAnswersItsMessage := by
  unfold Obligations.StorerecRowAnswersItsMessage
  intro len chars term s hlen
  have hexec : exec (.storerec len chars term) s =
      .next { s with answer := .message (loadRecord Config.hw (recordStore len chars term)) } := rfl
  rw [hexec, loadRecord_recordStore hlen]
  refine ⟨fun hbad => ?_, fun hmin hmax h0 h1 => ?_⟩
  · rw [← ite_or, if_pos (or_assoc.2 hbad)]
  · rw [if_neg (by omega), if_neg (not_or.2 ⟨h0, h1⟩)]

/-! ### The row PACK (R97, R142) -/

/-- PACK as arithmetic: the digit position times 64 is added to the high byte, and the carry out of it is lost (D5). -/
theorem toNat_packWord (d : BitVec 2) (g : Glyph) : (packWord Config.hw d g).toNat =
    (g.toNat / 256 + d.toNat * 64) % 256 * 256 + g.toNat % 256 := by
  have hlow : (g.extractLsb' 0 8).toNat < 2 ^ 8 := BitVec.isLt _
  rw [packWord_hw, BitVec.toNat_append, ← Nat.shiftLeft_add_eq_or_of_lt hlow]
  simp [Nat.shiftLeft_eq, Nat.shiftRight_eq_div_pow]

/-- The two fields of a word as arithmetic (R95). -/
theorem toNat_dselOf (w : TxWord) : (dselOf Config.hw w).toNat = w.toNat / 16384 := by
  rw [dselOf_hw, BitVec.extractLsb'_toNat, Nat.shiftRight_eq_div_pow]
  exact Nat.mod_eq_of_lt (Nat.div_lt_of_lt_mul (word_lt w))

theorem toNat_segOf (w : TxWord) : (segOf Config.hw w).toNat = w.toNat % 16384 := by
  simp [segOf_hw]

/-- Settles O14: all five clauses follow from PACK as arithmetic, the last two because an addition at bit 14 leaves the segments. -/
theorem packRowAddsTheDigitAddress : Obligations.PackRowAddsTheDigitAddress := by
  unfold Obligations.PackRowAddsTheDigitAddress
  intro d g s
  have hd : d.toNat < 4 := d.isLt
  have hg : g.toNat < 65536 := word_lt g
  have hw := toNat_packWord d g
  refine ⟨rfl, hw, fun hsmall => by rw [hw]; omega, BitVec.eq_of_toNat_eq ?_, BitVec.eq_of_toNat_eq ?_⟩
  · rw [← dselOf_hw, toNat_dselOf, hw, BitVec.toNat_add, toNat_dselOf]
    show _ = _ % 4
    omega
  · rw [toNat_segOf, toNat_segOf, hw]
    omega

/-! ### The row INDEX (R98, R141) -/

theorem indexOf_hw {len : Nat} (h : len ≠ 0) (j i : Nat) : indexOf Config.hw j i len = some ((j + 3 - i) % len) := if_neg h

/-- Settles O13: INDEX is the function of R98 where that is defined, and stuck where not. -/
theorem indexRowAnswersTheMessageIndex : Obligations.IndexRowAnswersTheMessageIndex := by
  unfold Obligations.IndexRowAnswersTheMessageIndex
  intro j d len s
  refine ⟨fun hlen => ⟨?_, Nat.mod_lt _ hlen⟩, fun hlen => ?_⟩
  · show execIndex j d len s = _
    rw [execIndex, indexOf_hw (Nat.ne_of_gt hlen)]
    rfl
  · show execIndex j d len s = _
    rw [execIndex, hlen]
    rfl

/-! ### The rows TXWORD (R95, R183, R184) -/

/-- Settles O15: the fields of a word made of an address and segments are these, and they are what it drives. -/
theorem txwordRowsDriveOneDigit : Obligations.TxwordRowsDriveOneDigit := by
  unfold Obligations.TxwordRowsDriveOneDigit
  intro seg s
  have drives : ∀ d : BitVec 2, Host.Outcome.next (s.withAnswer (driveOf (txWord d seg))) =
      (.next { s with answer := .drive d seg (digitEnOf d) } : Result) := fun d => by rw [driveOf_txWord]; rfl
  exact ⟨drives 0, drives 1, drives 2, drives 3⟩

end Sys2Proof.Machine
end

section
/-! The glyph ROM: what each CHAR8 row answers, and which codes have a font entry (40_glyph_encoder R120 to R128). -/

namespace Sys2Proof

open Machine

/-! ### The classes of a code (R91, R93, R126) -/

theorem isLower_of_isDigit {ch : Byte} (h : isDigit ch = true) : isLower ch = false := by
  obtain ⟨_, hhi⟩ := (isDigit_iff ch).1 h
  refine Bool.eq_false_iff.2 fun hl => ?_
  obtain ⟨hlo, _⟩ := (isLower_iff ch).1 hl
  omega

theorem isUpper_of_isDigit {ch : Byte} (h : isDigit ch = true) : isUpper ch = false := by
  obtain ⟨_, hhi⟩ := (isDigit_iff ch).1 h
  refine Bool.eq_false_iff.2 fun hu => ?_
  obtain ⟨hlo, _⟩ := (isUpper_iff ch).1 hu
  omega

theorem isUpper_of_isLower {ch : Byte} (h : isLower ch = true) : isUpper ch = false := by
  obtain ⟨hlo, _⟩ := (isLower_iff ch).1 h
  refine Bool.eq_false_iff.2 fun hu => ?_
  obtain ⟨_, hhi⟩ := (isUpper_iff ch).1 hu
  omega

theorem isAlnum_iff (ch : Byte) : isAlnum ch = true ↔ isDigit ch = true ∨ isLower ch = true ∨ isUpper ch = true := by
  simp [isAlnum, or_assoc]

theorem isAlnum_eq_false_iff (ch : Byte) :
    isAlnum ch = false ↔ isDigit ch = false ∧ isLower ch = false ∧ isUpper ch = false := by
  simp [isAlnum, and_assoc]

theorem isControl_iff (ch : Byte) : isControl ch = true ↔ ch.toNat ≤ 0x1F ∨ ch.toNat = 0x7F := by simp [isControl]

theorem inPunct_iff (c : Config) (ch : Byte) : inPunct c ch = true ↔ ch ∈ c.punct.map Prod.fst := by
  simp [inPunct]

theorem isAlnum_of_mem_punct {ch : Byte} (h : ch ∈ Config.hw.punct.map Prod.fst) : isAlnum ch = false := by
  obtain ⟨e, he, rfl⟩ := List.mem_map.1 h
  exact (Config.hw_punct_facts.2.2 e he).1

/-- A control character is in none of the four domains (R93, D18). -/
theorem isAlnum_of_isControl {ch : Byte} (h : isControl ch = true) : isAlnum ch = false := by
  have hc := (isControl_iff ch).1 h
  refine Bool.eq_false_iff.2 fun ha => ?_
  simp only [isAlnum_iff, isDigit_iff, isLower_iff, isUpper_iff] at ha
  omega

/-- Settles O11: the three ranges do not overlap, and the mapping holds no digit and no letter. -/
theorem charClassesAreDisjoint : Obligations.CharClassesAreDisjoint := by
  unfold Obligations.CharClassesAreDisjoint
  intro ch
  have notPunct : isAlnum ch = true → ch ∉ Config.hw.punct.map Prod.fst := fun ha hp => by
    simp [isAlnum_of_mem_punct hp] at ha
  exact ⟨fun hd => ⟨isLower_of_isDigit hd, isUpper_of_isDigit hd, notPunct ((isAlnum_iff ch).2 (.inl hd))⟩,
    fun hl => ⟨isUpper_of_isLower hl, notPunct ((isAlnum_iff ch).2 (.inr (.inl hl)))⟩,
    fun hu => notPunct ((isAlnum_iff ch).2 (.inr (.inr hu)))⟩

/-! ### The three tables (R121, R122, R123)

A table of `n` rows whose codes begin at `lo`: `hword` says that these codes are the words of its rows, `hentry` that `translate`
of each of them and the row's answer are the same entry of `font`. -/

theorem exec_translate (ch : Byte) (s : State) :
    exec (.translate ch) s = .next { s with answer := .glyph (translate Config.hw ch) } := rfl

section
variable {row : Nat → Instr} {lo n : Nat} {font : Fin n → Glyph} {ch : Byte}

theorem exists_tableCode (hlo : lo ≤ ch.toNat) (hhi : ch.toNat < lo + n) : ∃ k : Fin n, ch = BitVec.ofNat 8 (lo + k) :=
  ⟨⟨ch.toNat - lo, by omega⟩, by simp [Nat.add_sub_cancel' hlo]⟩

variable (hword : ∀ k < n, encode (row k) = [BitVec.ofNat 8 (lo + k)] ∧ formatOf (row k) = .char8 ∧ wellFormed (row k) = true)
include hword

/-- The code of an entry chooses the row of the entry, because the row is read back from its own word. -/
theorem charRow_tableCode (k : Fin n) : charRow Config.hw (BitVec.ofNat 8 (lo + k)) = row k := by
  obtain ⟨hbytes, hformat, hwf⟩ := hword k k.isLt
  have h := encodedRowsDecodeToThemselves (row k) [] hwf (.inl hformat)
  rw [hbytes, hformat] at h
  exact (Decoded.ok.inj h).1

/-- The codes that choose a row of the table are those of its range. -/
theorem exists_charRow_eq_iff (hfit : lo + n ≤ 256) :
    (∃ k : Fin n, charRow Config.hw ch = row k) ↔ lo ≤ ch.toNat ∧ ch.toNat < lo + n := by
  constructor
  · rintro ⟨k, hrow⟩
    have hk := k.isLt
    have hch : [ch] = [BitVec.ofNat 8 (lo + k)] := by
      rw [← (charRow_word ch).1, hrow, (hword k hk).1]
    have hnat : ch.toNat = lo + k := by
      rw [List.singleton_inj.1 hch, BitVec.toNat_ofNat]
      exact Nat.mod_eq_of_lt (show lo + k < 256 by omega)
    omega
  · rintro ⟨hlo, hhi⟩
    obtain ⟨k, rfl⟩ := exists_tableCode hlo hhi
    exact ⟨k, charRow_tableCode hword k⟩

variable (hentry : ∀ k : Fin n, translate Config.hw (BitVec.ofNat 8 (lo + k)) = font k ∧
  ∀ s : State, exec (row k) s = .next { s with answer := .glyph (font k) })
include hentry

/-- What the statement about a table says, for any table. -/
theorem tableRows_answer (hfit : lo + n ≤ 256) :
    (∀ k : Fin n, decode .char8 [BitVec.ofNat 8 (lo + k)] = .ok (row k) [] ∧
      translate Config.hw (BitVec.ofNat 8 (lo + k)) = font k ∧
      ∀ s : State, exec (row k) s = .next { s with answer := .glyph (font k) }) ∧
    ∀ ch : Byte, (∃ k : Fin n, decode .char8 [ch] = .ok (row k) []) ↔ lo ≤ ch.toNat ∧ ch.toNat < lo + n := by
  refine ⟨fun k => ⟨?_, hentry k⟩, fun ch => ?_⟩
  · rw [decode_char8_cons, charRow_tableCode hword]
  · simpa [decode_char8_cons] using exists_charRow_eq_iff hword hfit

/-- For a code in the range of a table, its row does what TRANSLATE does. -/
theorem exec_charRow_of_table (hlo : lo ≤ ch.toNat) (hhi : ch.toNat < lo + n) (s : State) :
    exec (charRow Config.hw ch) s = exec (.translate ch) s := by
  obtain ⟨k, rfl⟩ := exists_tableCode hlo hhi
  obtain ⟨htranslate, hexec⟩ := hentry k
  rw [charRow_tableCode hword, hexec, exec_translate, htranslate]

end

/-- At the code of entry `k`, `translate` and the row agree on the entry of the digit table. -/
theorem digitRow_entry (k : Fin 10) : translate Config.hw (BitVec.ofNat 8 (0x30 + k)) = Config.hw.fontDigit k ∧
    ∀ s : State, exec (digitRow k) s = .next { s with answer := .glyph (Config.hw.fontDigit k) } := by
  fin_cases k <;> exact ⟨rfl, fun _ => rfl⟩

theorem lowerRow_entry (k : Fin 26) : translate Config.hw (BitVec.ofNat 8 (0x61 + k)) = Config.hw.fontLower k ∧
    ∀ s : State, exec (lowerRow k) s = .next { s with answer := .glyph (Config.hw.fontLower k) } := by
  fin_cases k <;> exact ⟨rfl, fun _ => rfl⟩

theorem upperRow_entry (k : Fin 26) : translate Config.hw (BitVec.ofNat 8 (0x41 + k)) = Config.hw.fontUpper k ∧
    ∀ s : State, exec (upperRow k) s = .next { s with answer := .glyph (Config.hw.fontUpper k) } := by
  fin_cases k <;> exact ⟨rfl, fun _ => rfl⟩

/-- Settles O5: the digit table is ten rows whose codes begin at 0x30. -/
theorem digitRowsAnswerTheDigitTable : Obligations.DigitRowsAnswerTheDigitTable := by
  unfold Obligations.DigitRowsAnswerTheDigitTable
  simpa only [Nat.lt_succ_iff] using tableRows_answer digitRow_word digitRow_entry (by decide)

/-- Settles O6: the lowercase table is 26 rows whose codes begin at 0x61. -/
theorem lowerRowsAnswerTheLowercaseTable : Obligations.LowerRowsAnswerTheLowercaseTable := by
  unfold Obligations.LowerRowsAnswerTheLowercaseTable
  simpa only [Nat.lt_succ_iff] using tableRows_answer lowerRow_word lowerRow_entry (by decide)

/-- Settles O7: the uppercase table is 26 rows whose codes begin at 0x41. -/
theorem upperRowsAnswerTheUppercaseTable : Obligations.UpperRowsAnswerTheUppercaseTable := by
  unfold Obligations.UpperRowsAnswerTheUppercaseTable
  simpa only [Nat.lt_succ_iff] using tableRows_answer upperRow_word upperRow_entry (by decide)

/-! ### The punctuation mapping and the blank glyph (R124, R125) -/

theorem translate_of_not_alnum {ch : Byte} (h : isAlnum ch = false) (c : Config) : translate c ch = punctOrBlank c ch := by
  obtain ⟨hd, hl, hu⟩ := (isAlnum_eq_false_iff ch).1 h
  rw [Machine.translate]
  simp [hd, hl, hu]

/-- An entry of a mapping that lists no code twice is the one found at its code. -/
theorem punctGlyph_of_mem {c : Config} (hnodup : (c.punct.map Prod.fst).Nodup) {e : Byte × Glyph} (he : e ∈ c.punct) :
    punctGlyph c e.1 = some e.2 := by
  have hsome : (c.punct.find? fun e' => e'.1 == e.1).isSome := List.find?_isSome.2 ⟨e, he, beq_self_eq_true e.1⟩
  obtain ⟨e', hfind⟩ := Option.isSome_iff_exists.1 hsome
  have hcode : e'.1 = e.1 := by simpa using List.find?_some hfind
  have heq : e' = e := List.inj_on_of_nodup_map hnodup (List.mem_of_find?_eq_some hfind) he hcode
  rw [punctGlyph, hfind, heq]
  rfl

theorem punctOrBlank_of_mem {e : Byte × Glyph} (he : e ∈ Config.hw.punct) : punctOrBlank Config.hw e.1 = e.2 := by
  rw [punctOrBlank, punctGlyph_of_mem Config.hw_punct_facts.2.1 he, Option.getD_some]

theorem punctOrBlank_of_not_mem {c : Config} {ch : Byte} (h : ch ∉ c.punct.map Prod.fst) : punctOrBlank c ch = c.blank := by
  have hfind : c.punct.find? (fun e => e.1 == ch) = none :=
    List.find?_eq_none.2 fun e he heq => h (List.mem_map.2 ⟨e, he, eq_of_beq heq⟩)
  rw [punctOrBlank, punctGlyph, hfind]
  rfl

/-- Settles O8: the mapping is legal, so its codes are no digits or letters and each is found at its own entry. -/
theorem punctRowAnswersItsOwnEntry : Obligations.PunctRowAnswersItsOwnEntry := by
  unfold Obligations.PunctRowAnswersItsOwnEntry
  obtain ⟨hlen, hnodup, hcodes⟩ := Config.hw_punct_facts
  refine ⟨hlen, hnodup, fun e he => ⟨?_, ?_, fun s => ?_⟩⟩
  · have hp : inPunct Config.hw e.1 = true := (inPunct_iff _ _).2 (List.mem_map_of_mem he)
    rw [decode_char8_cons, charRow_of_not_alnum (hcodes e he).1, if_pos hp]
  · rw [translate_of_not_alnum (hcodes e he).1, punctOrBlank_of_mem he]
  · rw [← punctOrBlank_of_mem he]
    rfl

/-- The codes of GLYPH.BLANK are those of no table and of no entry of the mapping. -/
theorem charRow_eq_glyphBlank_iff (ch : Byte) : charRow Config.hw ch = .glyphBlank ch ↔
    isAlnum ch = false ∧ ch ∉ Config.hw.punct.map Prod.fst := by
  rw [← inPunct_iff, Bool.not_eq_true, ← wellFormed_glyphBlank]
  refine ⟨fun h => h ▸ (charRow_word ch).2.2, fun h => ?_⟩
  obtain ⟨ha, hp⟩ := (wellFormed_glyphBlank ch).1 h
  rw [charRow_of_not_alnum ha, hp]
  rfl

theorem translate_of_glyphBlank {ch : Byte} (h : charRow Config.hw ch = .glyphBlank ch) : translate Config.hw ch = 0x0000 := by
  obtain ⟨ha, hp⟩ := (charRow_eq_glyphBlank_iff ch).1 h
  rw [translate_of_not_alnum ha, punctOrBlank_of_not_mem hp, Config.hw_blank]

theorem charRow_of_isControl {ch : Byte} (h : isControl ch = true) : charRow Config.hw ch = .glyphBlank ch := by
  refine (charRow_eq_glyphBlank_iff ch).2 ⟨isAlnum_of_isControl h, ?_⟩
  rw [← inPunct_iff, inPunct_of_control h]
  decide

/-- Settles O9: a code of none of the four domains, and so every control character, is a code of GLYPH.BLANK. -/
theorem codesOfNoTableAreBlank : Obligations.CodesOfNoTableAreBlank := by
  unfold Obligations.CodesOfNoTableAreBlank
  refine ⟨fun ch hd hl hu hp => ?_, fun ch hc => ?_⟩
  · have hrow := (charRow_eq_glyphBlank_iff ch).2 ⟨(isAlnum_eq_false_iff ch).2 ⟨hd, hl, hu⟩, hp⟩
    exact ⟨by rw [decode_char8_cons, hrow], translate_of_glyphBlank hrow, fun _ => rfl⟩
  · have hrow := charRow_of_isControl ((isControl_iff ch).2 hc)
    exact ⟨by rw [decode_char8_cons, hrow], translate_of_glyphBlank hrow⟩

/-! ### TRANSLATE and the ROM image (R120, R61, R105) -/

/-- The CHAR8 row of a code does what TRANSLATE of the code does. -/
theorem exec_charRow (ch : Byte) (s : State) : exec (charRow Config.hw ch) s = exec (.translate ch) s := by
  by_cases ha : isAlnum ch = true
  · rcases (isAlnum_iff ch).1 ha with hd | hl | hu
    · obtain ⟨hlo, hhi⟩ := (isDigit_iff ch).1 hd
      exact exec_charRow_of_table digitRow_word digitRow_entry hlo (Nat.lt_succ_of_le hhi) s
    · obtain ⟨hlo, hhi⟩ := (isLower_iff ch).1 hl
      exact exec_charRow_of_table lowerRow_word lowerRow_entry hlo (Nat.lt_succ_of_le hhi) s
    · obtain ⟨hlo, hhi⟩ := (isUpper_iff ch).1 hu
      exact exec_charRow_of_table upperRow_word upperRow_entry hlo (Nat.lt_succ_of_le hhi) s
  · rw [Bool.not_eq_true] at ha
    rw [exec_translate]
    by_cases hp : inPunct Config.hw ch = true
    · rw [charRow_of_not_alnum ha, if_pos hp, translate_of_not_alnum ha]
      rfl
    · have hrow := (charRow_eq_glyphBlank_iff ch).2 ⟨ha, fun hmem => hp ((inPunct_iff _ ch).2 hmem)⟩
      rw [translate_of_glyphBlank hrow, hrow]
      rfl

theorem romImage_getElem? (c : Config) (ch : Byte) : (romImage c)[ch.toNat]? = some (translate c ch) := by
  simp [romImage, List.getElem?_range (byte_lt ch)]

/-- Settles O10: TRANSLATE only sets the answer, and the decoded row is that of the code. -/
theorem charRowsAgreeWithTranslate : Obligations.CharRowsAgreeWithTranslate := by
  unfold Obligations.CharRowsAgreeWithTranslate
  intro ch s
  exact ⟨exec_translate ch s, romImage_getElem? _ ch, _, decode_char8_cons [] ch, exec_charRow ch s⟩

/-! ### The number of codes with a font entry (R128) -/

/-- The codes of the digits and the letters. -/
def alnumCodes : List Nat := List.range' 0x30 10 ++ List.range' 0x61 26 ++ List.range' 0x41 26

theorem mem_alnumCodes_iff (ch : Byte) : ch.toNat ∈ alnumCodes ↔ isAlnum ch = true := by
  simp only [alnumCodes, List.mem_append, List.mem_range'_1, isAlnum_iff, isDigit_iff, isLower_iff, isUpper_iff]
  omega

theorem nodup_alnumCodes : alnumCodes.Nodup := by decide

/-- The codes with a font entry: the digits and the letters, then the codes of the mapping. -/
def fontCodes : List Nat := alnumCodes ++ (Config.hw.punct.map Prod.fst).map BitVec.toNat

theorem length_fontCodes : fontCodes.length = 94 := by
  rw [fontCodes, List.length_append, List.length_map, List.length_map, Config.hw_punct_facts.1]
  rfl

theorem nodup_fontCodes : fontCodes.Nodup := by
  refine nodup_alnumCodes.append (Config.hw_punct_facts.2.1.map fun _ _ => BitVec.eq_of_toNat_eq) fun n hn hp => ?_
  obtain ⟨ch, hch, rfl⟩ := List.mem_map.1 hp
  have ha := (mem_alnumCodes_iff ch).1 hn
  rw [isAlnum_of_mem_punct hch] at ha
  cases ha

theorem mem_fontCodes_iff (ch : Byte) : ch.toNat ∈ fontCodes ↔ charRow Config.hw ch ≠ .glyphBlank ch := by
  have hpunct : ch.toNat ∈ (Config.hw.punct.map Prod.fst).map BitVec.toNat ↔ ch ∈ Config.hw.punct.map Prod.fst :=
    List.mem_map_of_injective fun _ _ => BitVec.eq_of_toNat_eq
  rw [fontCodes, List.mem_append, mem_alnumCodes_iff, hpunct, ne_eq, charRow_eq_glyphBlank_iff, ← Bool.not_eq_true]
  tauto

theorem lt_of_mem_fontCodes {n : Nat} (h : n ∈ fontCodes) : n < 256 := by
  rcases List.mem_append.1 h with ha | hp
  · simp only [alnumCodes, List.mem_append, List.mem_range'_1] at ha
    omega
  · obtain ⟨ch, -, rfl⟩ := List.mem_map.1 hp
    exact byte_lt ch

/-- The codes whose row is not GLYPH.BLANK are those with a font entry. -/
theorem filter_charRow_perm : ((List.range 256).filter fun n =>
    decide (charRow Config.hw (BitVec.ofNat 8 n) ≠ .glyphBlank (BitVec.ofNat 8 n))).Perm fontCodes := by
  refine (List.perm_ext_iff_of_nodup (List.nodup_range.filter _) nodup_fontCodes).2 fun n => ?_
  rw [List.mem_filter, List.mem_range, decide_eq_true_eq]
  by_cases hn : n < 256
  · have hcode := mem_fontCodes_iff (BitVec.ofNat 8 n)
    rw [BitVec.toNat_ofNat, Nat.mod_eq_of_lt (show n < 2 ^ 8 from hn)] at hcode
    rw [hcode]
    exact and_iff_right hn
  · exact iff_of_false (fun h => hn h.1) fun h => hn (lt_of_mem_fontCodes h)

/-- Every code without a font entry leaves a blank entry in the image. -/
theorem length_filter_charRow_le : ((List.range 256).filter fun n =>
    !decide (charRow Config.hw (BitVec.ofNat 8 n) ≠ .glyphBlank (BitVec.ofNat 8 n))).length ≤
      ((romImage Config.hw).filter fun g => decide (g = 0x0000)).length := by
  rw [romImage, List.filter_map, List.length_map]
  refine (List.monotone_filter_right _ fun n hn => ?_).length_le
  have hrow : charRow Config.hw (BitVec.ofNat 8 n) = .glyphBlank (BitVec.ofNat 8 n) := by simpa using hn
  exact decide_eq_true (translate_of_glyphBlank hrow)

/-- Settles O12: 94 codes have a font entry, and each of the other 162 of the 256 codes is blank in the image. -/
theorem ninetyFourCodesHaveAFontEntry : Obligations.NinetyFourCodesHaveAFontEntry := by
  unfold Obligations.NinetyFourCodesHaveAFontEntry
  have hfont := filter_charRow_perm.length_eq.trans length_fontCodes
  have hsplit := List.length_eq_length_filter_add (l := List.range 256) fun n =>
    decide (charRow Config.hw (BitVec.ofNat 8 n) ≠ .glyphBlank (BitVec.ofNat 8 n))
  rw [List.length_range, hfont] at hsplit
  have hblank := length_filter_charRow_le
  exact ⟨by simp [romImage], hfont, by omega⟩

end Sys2Proof
end

section
/-! The engine operations where R33 holds, each in its own phase: the whole next state, from the `_next_iff` lemma of the
operation (41_scan_out_engine R143 to R153). -/

namespace Sys2Proof.Machine

/-- In range, the character that a digit position shows stands in the buffer (R62, R141). -/
theorem State.getElem?_charAt {s : State} (hr : s.InRanges Config.hw) (d : DigitAddr) :
    s.msg[(s.j.toNat + 3 - d.toNat) % s.len]? = some (s.charAt d) := by
  have hlt : (s.j.toNat + 3 - d.toNat) % s.len < s.msg.length := Nat.mod_lt _ hr.1
  rw [State.charAt, List.getD_eq_getElem?_getD, List.getElem?_eq_getElem hlt, Option.getD_some]

/-- The window offset after an advance (R152). -/
theorem State.InRanges.toNat_nextOffset {s : State} (hr : s.InRanges Config.hw) :
    (BitVec.ofNat 7 ((s.j.toNat + 1) % s.len)).toNat = (s.j.toNat + 1) % s.len := by
  obtain ⟨hmin, hmax, -, -⟩ := s.inRanges_hw.1 hr
  rw [BitVec.toNat_ofNat, Nat.mod_eq_of_lt ((Nat.mod_lt _ hmin).trans_le hmax)]

/-- A pending offer leaves the channel unread. -/
theorem State.gather_of_offer {s : State} {m : Message} (ho : s.offer = some m) (c : Config) : s.gather c = s :=
  if_neg (by simp [ho])

/-- Settles O18: in range the fetch reads the digit's character, and STRB falls without an edge that the chain sees. -/
theorem dbeginLoadsTheWordOfTheDigit : Obligations.DbeginLoadsTheWordOfTheDigit := by
  unfold Obligations.DbeginLoadsTheWordOfTheDigit
  intro s hr hp
  exact ⟨(dbegin_next_iff Config.hw s _).2
    ⟨hr, hp, s.charAt s.i, fetchedChar_hw s hr.1, by simp [beginDigit, State.toPhase]⟩, State.getElem?_charAt hr.1 s.i⟩

/-- Settles O24: the tenth frame is the one with loops = 9, and (j + 1) mod len fits the width of j. -/
theorem fendAdvancesTheWindow : Obligations.FendAdvancesTheWindow := by
  unfold Obligations.FendAdvancesTheWindow
  intro s hr hp
  refine ⟨fun hn => ⟨_, hr.1.toNat_nextOffset, ?_⟩, fun hn => ?_⟩
  · exact (fend_next_iff Config.hw s _).2 ⟨hr, hp, by rw [windowDue_hw, decide_eq_true hn]; rfl⟩
  · exact (fend_next_iff Config.hw s _).2 ⟨hr, hp, by rw [windowDue_hw, decide_eq_false hn]; rfl⟩

/-- Settles O19: BSET drives SDAT alone. -/
theorem bsetPresentsTheNextBit : Obligations.BsetPresentsTheNextBit := by
  unfold Obligations.BsetPresentsTheNextBit
  intro s hr hp
  exact (bset_next_iff Config.hw s _).2 ⟨hr, hp, rfl⟩

/-- Settles O20: SCLK is low in RISE, so driving it high is the edge at which the chain shifts. -/
theorem briseClocksTheBitIn : Obligations.BriseClocksTheBitIn := by
  unfold Obligations.BriseClocksTheBitIn
  intro s hr hp
  rw [← State.shift_sr_eq]
  refine (brise_next_iff Config.hw s _).2 ⟨hr, hp, ?_⟩
  rw [s.driveSclk_rise (hr.clock_low (by simp [hp]))]
  rfl

/-- Settles O21: the falling edge does nothing to the chain, and bit 15 decides the next phase. -/
theorem bfallCountsTheBit : Obligations.BfallCountsTheBit := by
  unfold Obligations.BfallCountsTheBit
  intro s hr hp hc
  refine ⟨fun hn => ?_, fun hn => ?_⟩
  · refine (bfall_next_iff Config.hw s _).2 ⟨hr, hp, hc, ?_⟩
    rw [lastBit_hw, decide_eq_true hn, if_pos rfl, State.driveSclk_false_eq]
    rfl
  · refine (bfall_next_iff Config.hw s _).2 ⟨hr, hp, hc, ?_⟩
    rw [lastBit_hw, decide_eq_false hn, State.driveSclk_false_eq]
    rfl

/-- Settles O22: STRB is low in LATCH, so driving it high is the edge at which the chain copies SR into OUT. -/
theorem dlatchCommitsTheWord : Obligations.DlatchCommitsTheWord := by
  unfold Obligations.DlatchCommitsTheWord
  intro s hr hp hn
  have hb : s.strb = false := hr.strobe_low (.inr (.inr (.inr hp)))
  refine (dlatch_next_iff Config.hw s _).2 ⟨hr, hp, by rw [lastBit_hw, decide_eq_true hn], ?_⟩
  rw [State.driveStrb_rise { s with settlecnt := 0 } hb]
  rfl

/-- Settles O23: the count decides whether the settle time goes on, and the digit position what follows it. -/
theorem dsettleCountsTheSettleTime : Obligations.DsettleCountsTheSettleTime := by
  unfold Obligations.DsettleCountsTheSettleTime
  intro s hr hp
  have last : s.settlecnt = 5 → s.settlecnt.toNat < 6 := fun hn => by rw [hn]; decide
  refine ⟨fun hlt => ?_, fun hn hi => ?_, fun hn hi => ?_⟩
  · have hn : s.settlecnt ≠ 5 := fun e => absurd hlt (by rw [e]; decide)
    exact (dsettle_next_iff Config.hw s _).2
      ⟨hr, hp, Nat.lt_succ_of_lt hlt, by rw [lastTick_hw, decide_eq_false hn]; rfl⟩
  · exact (dsettle_next_iff Config.hw s _).2
      ⟨hr, hp, last hn, by rw [lastTick_hw, decide_eq_true hn, lastDigit_hw, decide_eq_false hi]; rfl⟩
  · exact (dsettle_next_iff Config.hw s _).2
      ⟨hr, hp, last hn, by rw [lastTick_hw, decide_eq_true hn, lastDigit_hw, decide_eq_true hi]; rfl⟩

/-- Settles O25: an empty burst gathers no offer, and a pending offer is the one that is sampled. -/
theorem mcheckTakesTheOffer : Obligations.McheckTakesTheOffer := by
  unfold Obligations.McheckTakesTheOffer
  intro s hr hp
  refine ⟨fun hno => ?_, fun m ho h1 h128 => ?_⟩
  · refine (mcheck_next_iff Config.hw s _).2 ⟨hr, hp, .inl ?_⟩
    rw [State.gather_noReplacement hno]
    exact ⟨hno.1, rfl⟩
  · refine (mcheck_next_iff Config.hw s _).2 ⟨hr, hp, .inr ⟨m, ?_, (validMsg_hw m).2 ⟨h1, h128⟩, ?_⟩⟩
    · rw [State.gather_of_offer ho, ho]
    · rw [State.gather_of_offer ho]
      rfl

/-- Settles O41: the phase code decodes to the phase's row and to no other, and before INIT nothing is decoded. -/
theorem stepRunsTheDecodedOperation : Obligations.StepRunsTheDecodedOperation := by
  unfold Obligations.StepRunsTheDecodedOperation
  intro s i
  refine ⟨fun hs hd => ?_, step_unstarted s⟩
  rw [decode_phaseCode] at hd
  cases hd
  exact step_started s hs

/-- Settles O45: INIT leaves a running state, and the operation of each phase finds its precondition met and leads to one. -/
theorem noInvariantStateIsStuck : Obligations.NoInvariantStateIsStuck := by
  unfold Obligations.NoInvariantStateIsStuck
  intro s h
  exact h.step_running

end Sys2Proof.Machine
end

section
/-! How long OUT holds (42_display_chain R187, 70_reset_and_hazards R267): the steps of a running state outside LATCH leave OUT
as it is, and each of them brings the next DLATCH nearer by one. -/

namespace Sys2Proof.Machine

variable {s t : State}

/-! ### Runs that begin alike -/

theorem reaches_zero_self (s : State) : s.Reaches 0 s := (reaches_zero s s).2 rfl

theorem reaches_one (h : step s = .next t) : s.Reaches 1 t := (reaches_succ s t 0).2 ⟨t, h, reaches_zero_self t⟩

/-- A run goes on from every state that it passes. -/
theorem reaches_of_reaches_add {m n : Nat} {u : State} (hu : s.Reaches m u) (ht : s.Reaches (m + n) t) : u.Reaches n t := by
  induction m generalizing s with
  | zero =>
    obtain rfl := (reaches_zero s u).1 hu
    rwa [Nat.zero_add] at ht
  | succ m ih =>
    rw [Nat.succ_add] at ht
    obtain ⟨v, hv, hvu⟩ := (reaches_succ s u m).1 hu
    obtain ⟨v', hv', hvt⟩ := (reaches_succ s t (m + n)).1 ht
    obtain rfl : v' = v := (next_eq_next v v').1 (hv.symm.trans hv')
    exact ih hvu hvt

/-! ### The way to the next DLATCH -/

/-- The operations before the next DLATCH (R154): three for every bit, six for the settle time, and FEND and MCHECK after the
fourth digit. -/
def State.untilLatch (s : State) : Nat :=
  match s.phase with
  | .check => 50
  | .begin => 49
  | .setup => 3 * (15 - s.bitcnt.toNat) + 3
  | .rise => 3 * (15 - s.bitcnt.toNat) + 2
  | .fall => 3 * (15 - s.bitcnt.toNat) + 1
  | .latch => 0
  | .settle => (6 - s.settlecnt.toNat) + (if s.i = 3 then 51 else 49)
  | .frameEnd => 51

@[simp] theorem State.gather_out (s : State) (c : Config) : (s.gather c).out = s.out := by
  obtain ⟨inputs, offer, h⟩ := s.gather_eq c
  rw [h]

/-- The check leads to BEGIN and leaves OUT, whatever the host has gathered (R153, R213). -/
theorem step_check_out (h : s.Running Config.hw) (hp : s.phase = .check) (hst : step s = .next t) :
    t.phase = .begin ∧ t.out = s.out := by
  rw [step_check h.2 h.specInvariants hp h.hostOk, next_eq_next] at hst
  subst hst
  split
  · exact ⟨rfl, s.gather_out Config.hw⟩
  · exact ⟨rfl, s.gather_out Config.hw⟩

/-- Outside LATCH a step leaves OUT as it is and is one of the operations before the next DLATCH. -/
theorem State.Running.step_before_latch (h : s.Running Config.hw) (hp : s.phase ≠ .latch) (hst : step s = .next t) :
    t.out = s.out ∧ t.untilLatch + 1 = s.untilLatch := by
  have hr := h.specInvariants
  have via : ∀ {u : State}, step s = .next u → u.out = s.out ∧ u.untilLatch + 1 = s.untilLatch →
      t.out = s.out ∧ t.untilLatch + 1 = s.untilLatch := by
    intro u hu hu'
    obtain rfl : t = u := (next_eq_next u t).1 (hu.symm.trans hst)
    exact hu'
  rcases running_cases h with ⟨hph, -⟩ | ⟨hph, -⟩ | ⟨hph, -⟩ | ⟨hph, -⟩ | ⟨hph, hc, -⟩ | ⟨hph, -⟩ | ⟨hph, -, -, hn⟩ | ⟨hph, -⟩
  · obtain ⟨htp, hto⟩ := step_check_out h hph hst
    exact ⟨hto, by simp [State.untilLatch, htp, hph]⟩
  · exact via (step_begin h.2 hr hph) ⟨rfl, by simp [State.untilLatch, hph]⟩
  · exact via (step_setup h.2 hr hph) ⟨rfl, by simp [State.untilLatch, hph]⟩
  · exact via (step_rise h.2 hr hph) ⟨rfl, by simp [State.untilLatch, hph]⟩
  · by_cases hn : s.bitcnt = 15
    · exact via (step_fall_last h.2 hr hph hc hn) ⟨rfl, by simp [State.untilLatch, hph, hn]⟩
    · have hlt : s.bitcnt.toNat < 15 :=
        lt_of_le_of_ne (Nat.le_of_lt_succ s.bitcnt_lt) fun e => hn (BitVec.eq_of_toNat_eq e)
      have hadd : (s.bitcnt + 1).toNat = s.bitcnt.toNat + 1 := BitVec.toNat_add_of_lt (Nat.succ_lt_succ hlt)
      refine via (step_fall_more h.2 hr hph hc hn) ⟨rfl, ?_⟩
      simp only [State.untilLatch, hph, hadd]
      omega
  · exact absurd hph hp
  · by_cases h5 : s.settlecnt = 5
    · refine via (step_settle_last h.2 hr hph h5) ⟨rfl, ?_⟩
      by_cases hi : s.i = 3
      · simp only [State.untilLatch, hph, h5, if_pos hi]
        rfl
      · simp only [State.untilLatch, hph, h5, if_neg hi]
        rfl
    · have hlt : s.settlecnt.toNat < 5 :=
        lt_of_le_of_ne (Nat.le_of_lt_succ hn) fun e => h5 (BitVec.eq_of_toNat_eq e)
      have hadd : (s.settlecnt + 1).toNat = s.settlecnt.toNat + 1 :=
        BitVec.toNat_add_of_lt (show s.settlecnt.toNat + 1 < 8 by omega)
      refine via (step_settle_more h.2 hr hph hlt) ⟨rfl, ?_⟩
      simp only [State.untilLatch, hph, hadd]
      omega
  · by_cases hn : s.loops = 9
    · exact via (step_frameEnd_due h.2 hr hph hn) ⟨rfl, by simp [State.untilLatch, hph]⟩
    · exact via (step_frameEnd_more h.2 hr hph hn) ⟨rfl, by simp [State.untilLatch, hph]⟩

/-- OUT is unchanged as long as no DLATCH has run. -/
theorem State.Running.out_before_latch (h : s.Running Config.hw) {n : Nat} (hn : n ≤ s.untilLatch) (ht : s.Reaches n t) :
    t.out = s.out := by
  induction n generalizing s with
  | zero => rw [(reaches_zero s t).1 ht]
  | succ n ih =>
    obtain ⟨u, hu, hut⟩ := (reaches_succ s t n).1 ht
    have hp : s.phase ≠ .latch := fun e => by simp [State.untilLatch, e] at hn
    obtain ⟨hout, huntil⟩ := h.step_before_latch hp hu
    exact (ih (h.1.running_of_step hu) (by omega) hut).trans hout

/-! ### The framing of the lines -/

theorem Phase.drivenLine_eq_sclk_iff (p : Phase) : p.drivenLine = some .sclk ↔ p = .rise ∨ p = .fall := by
  cases p <;> simp [Phase.drivenLine]

theorem Phase.drivenLine_eq_strb_iff (p : Phase) : p.drivenLine = some .strb ↔ p = .begin ∨ p = .latch := by
  cases p <;> simp [Phase.drivenLine]

/-- STRB rises in no operation but DLATCH: DBEGIN, the other one that drives it, lowers it (R143, R149). -/
theorem State.Running.latch_of_strobe_rises (h : s.Running Config.hw) (hst : step s = .next t) (hs : s.strb = false)
    (ht : t.strb = true) : s.phase = .latch := by
  have hd : s.phase.drivenLine = some .strb := by
    by_contra hne
    have hk : t.strb = s.strb := level_of_step h.2 hst hne
    simp [hk, hs] at ht
  rcases s.phase.drivenLine_eq_strb_iff.1 hd with hp | hp
  · rw [step_begin h.2 h.specInvariants hp, next_eq_next] at hst
    simp [hst] at ht
  · exact hp

/-- In LATCH a running state has clocked 16 bits, and SCLK is low again (R147). -/
theorem State.Running.latch_ready (h : s.Running Config.hw) (hp : s.phase = .latch) : s.bitcnt = 15 ∧ s.sclk = false := by
  obtain ⟨-, hrd⟩ := h.1.2 h.2
  simp only [State.readyForPhase, hp, Bool.and_eq_true, Bool.not_eq_true', decide_eq_true_eq] at hrd
  obtain ⟨⟨hc, -⟩, hn⟩ := hrd
  exact ⟨BitVec.eq_of_toNat_eq hn, hc⟩

/-- Settles O50: SCLK is driven in RISE and FALL only, where STRB is low and is not the driven line; OUT changes and STRB rises in
LATCH only, which a running state reaches with 16 bits clocked and SCLK low. -/
theorem clockEdgesFallWhileStrobeIsLow : Obligations.ClockEdgesFallWhileStrobeIsLow := by
  unfold Obligations.ClockEdgesFallWhileStrobeIsLow
  intro s t h hst
  refine ⟨fun hne => ?_, fun hne => ?_, fun hs ht => ?_⟩
  · have hd : s.phase.drivenLine = some .sclk := by_contra fun e => hne (level_of_step h.2 hst e).symm
    have hk : t.strb = s.strb := level_of_step (l := .strb) h.2 hst (by simp [hd])
    have hp : s.phase = .rise ∨ s.phase = .fall := s.phase.drivenLine_eq_sclk_iff.1 hd
    have hb : s.strb = false := h.specInvariants.strobe_low (by tauto)
    exact ⟨hb, hk.trans hb⟩
  · exact by_contra fun hp => hne (h.step_before_latch hp hst).1
  · have hp := h.latch_of_strobe_rises hst hs ht
    exact ⟨hp, h.latch_ready hp⟩

end Sys2Proof.Machine
end

section
/-! The sending of a digit (41_scan_out_engine R154, R155): three operations for every bit, which slide SR along the word, then
the latch and the settle time. -/

namespace Sys2Proof.Machine

/-! ### The shift register while a word is shifted in -/

/-- SR once the first `k` bits of `w` have been shifted into `r`: of the 32 bits of `r` followed by `w`, the 16 that begin at bit
`k` (R66, R181). -/
def shiftedIn (w r : TxWord) (k : Nat) : TxWord := (r ++ w).extractLsb' (16 - k) 16

theorem getLsbD_shiftedIn (w r : TxWord) (k : Nat) {n : Nat} (hn : n < 16) :
    (shiftedIn w r k).getLsbD n = if 16 - k + n < 16 then w.getLsbD (16 - k + n) else r.getLsbD (16 - k + n - 16) := by
  rw [shiftedIn, BitVec.getLsbD_extractLsb', BitVec.getLsbD_append, decide_eq_true hn, Bool.true_and]

theorem shiftedIn_zero (w r : TxWord) : shiftedIn w r 0 = r := by
  refine BitVec.eq_of_getLsbD_eq fun n hn => ?_
  rw [getLsbD_shiftedIn w r 0 hn]
  simp

theorem shiftedIn_sixteen (w r : TxWord) : shiftedIn w r 16 = w := by
  refine BitVec.eq_of_getLsbD_eq fun n (hn : n < 16) => ?_
  rw [getLsbD_shiftedIn w r 16 hn]
  simp [hn]

/-- The next bit of `w` moves the window on by one. -/
theorem shiftedIn_succ (w r : TxWord) {k : Nat} (hk : k < 16) :
    (shiftedIn w r k).extractLsb' 0 15 ++ BitVec.ofBool (w.getLsbD (15 - k)) = shiftedIn w r (k + 1) := by
  refine BitVec.eq_of_getLsbD_eq fun n (hn : n < 16) => ?_
  rw [BitVec.getLsbD_append, BitVec.getLsbD_ofBool, BitVec.getLsbD_extractLsb', getLsbD_shiftedIn w r (k + 1) hn]
  cases n with
  | zero =>
    have hbit : 16 - (k + 1) = 15 - k := by omega
    have hlt : 15 - k < 16 := by omega
    simp [hbit, hlt]
  | succ n =>
    have hbit : 16 - (k + 1) + (n + 1) = 16 - k + n := by omega
    have hlt : n < 15 := by omega
    rw [hbit, ← getLsbD_shiftedIn w r k (Nat.lt_of_succ_lt hn)]
    simp [hlt]

/-! ### One bit -/

variable {s : State}

/-- BSET and BRISE present the next bit and shift it in (R144, R145). -/
theorem State.Running.reaches_bit_presented (h : s.Running Config.hw) (hp : s.phase = .setup) :
    s.Reaches 2 { s with
      sdat := nextBit Config.hw s, sclk := true, sr := (s.driveSdat (nextBit Config.hw s)).shift.sr, phase := .fall } := by
  have hset := step_setup h.2 h.specInvariants hp
  have hu := h.1.running_of_step hset
  exact (reaches_succ s _ 1).2 ⟨_, hset, reaches_one (step_rise hu.2 hu.specInvariants rfl)⟩

/-- A bit before the last takes three operations and leads to the next bit (R144 to R146). -/
theorem State.Running.reaches_next_bit (h : s.Running Config.hw) (hp : s.phase = .setup) (hn : s.bitcnt ≠ 15) :
    s.Reaches 3 { s with
      sdat := nextBit Config.hw s, sclk := false, sr := (s.driveSdat (nextBit Config.hw s)).shift.sr, bitcnt := s.bitcnt + 1,
      phase := .setup } := by
  have h2 := h.reaches_bit_presented hp
  have hu := h.of_reaches h2
  exact reaches_add _ _ _ 2 1 h2 (reaches_one (step_fall_more hu.2 hu.specInvariants rfl rfl hn))

/-- The last bit takes three operations and leads to DLATCH. -/
theorem State.Running.reaches_latch (h : s.Running Config.hw) (hp : s.phase = .setup) (hn : s.bitcnt = 15) :
    s.Reaches 3 { s with
      sdat := nextBit Config.hw s, sclk := false, sr := (s.driveSdat (nextBit Config.hw s)).shift.sr, phase := .latch } := by
  have h2 := h.reaches_bit_presented hp
  have hu := h.of_reaches h2
  exact reaches_add _ _ _ 2 1 h2 (reaches_one (step_fall_last hu.2 hu.specInvariants rfl rfl hn))

/-! ### The whole word -/

theorem ofNat_ne_of_lt {w k n : Nat} (hk : k < n) (hn : n < 2 ^ w) : BitVec.ofNat w k ≠ BitVec.ofNat w n := by
  intro e
  have hnat := congrArg BitVec.toNat e
  rw [BitVec.toNat_ofNat, BitVec.toNat_ofNat, Nat.mod_eq_of_lt hn, Nat.mod_eq_of_lt (hk.trans hn)] at hnat
  exact hk.ne hnat

/-- The state before bit `k` of the word, when the digit's first SETUP was `s` and SDAT holds `d`. -/
def State.atBit (s : State) (d : Bool) (k : Nat) : State :=
  { s with sdat := d, sclk := false, sr := shiftedIn s.w s.sr k, bitcnt := BitVec.ofNat 4 k, phase := .setup }

theorem State.Running.atBit_zero (h : s.Running Config.hw) (hp : s.phase = .setup) (hn : s.bitcnt = 0) :
    s.atBit s.sdat 0 = s := by
  have hc : s.sclk = false := h.specInvariants.clock_low (by simp [hp])
  rw [State.atBit, shiftedIn_zero, ← hc, ← hp, ← show s.bitcnt = BitVec.ofNat 4 0 from hn]

theorem State.nextBit_atBit (s : State) (d : Bool) {k : Nat} (hk : k < 16) :
    nextBit Config.hw (s.atBit d k) = s.w.getLsbD (15 - k) := by
  rw [nextBit_hw, State.atBit, BitVec.toNat_ofNat, Nat.mod_eq_of_lt (show k < 2 ^ 4 from hk)]

/-- The shift of bit `k` brings SR to its contents before the next one. -/
theorem State.shift_atBit (s : State) (d : Bool) {k : Nat} (hk : k < 16) :
    ((s.atBit d k).driveSdat (nextBit Config.hw (s.atBit d k))).shift.sr = shiftedIn s.w s.sr (k + 1) := by
  rw [s.nextBit_atBit d hk]
  exact shiftedIn_succ s.w s.sr hk

/-- The bits before bit `k` of the word take three operations each, whatever SR and SDAT held (R185). -/
theorem State.Running.reaches_atBit (h : s.Running Config.hw) (hp : s.phase = .setup) (hn : s.bitcnt = 0) {k : Nat}
    (hk : k < 16) : ∃ d, s.Reaches (3 * k) (s.atBit d k) := by
  induction k with
  | zero => exact ⟨s.sdat, (h.atBit_zero hp hn).symm ▸ reaches_zero_self s⟩
  | succ k ih =>
    obtain ⟨d, hd⟩ := ih (Nat.lt_of_succ_lt hk)
    have hbit := (h.of_reaches hd).reaches_next_bit rfl (ofNat_ne_of_lt (Nat.lt_of_succ_lt_succ hk) (by decide))
    rw [s.shift_atBit d (Nat.lt_of_succ_lt hk)] at hbit
    rw [show (s.atBit d k).bitcnt + 1 = BitVec.ofNat 4 (k + 1) from (BitVec.ofNat_add k 1).symm] at hbit
    exact ⟨_, reaches_add _ _ _ (3 * k) 3 hd hbit⟩

/-- The sixteen bits take 48 operations and leave the word in SR (R185). -/
theorem State.Running.reaches_word_sent (h : s.Running Config.hw) (hp : s.phase = .setup) (hn : s.bitcnt = 0) :
    s.Reaches 48 { s with sdat := s.w.getLsbD 0, sclk := false, sr := s.w, bitcnt := 15, phase := .latch } := by
  obtain ⟨d, hd⟩ := h.reaches_atBit hp hn (k := 15) (by decide)
  have hlast := (h.of_reaches hd).reaches_latch rfl rfl
  rw [s.shift_atBit d (by decide), shiftedIn_sixteen, s.nextBit_atBit d (by decide)] at hlast
  exact reaches_add _ _ _ 45 3 hd hlast

/-- Settles O51: DBEGIN loads the digit's word, sixteen bits bring it into SR, and DLATCH into OUT. -/
theorem digitDeliversItsWord : Obligations.DigitDeliversItsWord := by
  unfold Obligations.DigitDeliversItsWord
  intro s h hp
  have hbegin := step_begin h.2 h.specInvariants hp
  have hsent := (h.1.running_of_step hbegin).reaches_word_sent rfl rfl
  have hlatch := (reaches_succ s _ 48).2 ⟨_, hbegin, hsent⟩
  have hl := h.of_reaches hlatch
  exact reaches_add _ _ _ 49 1 hlatch (reaches_one (step_latch hl.2 hl.specInvariants rfl rfl))

/-! ### The settle time -/

/-- The first units of the settle time only count (R150). -/
theorem State.Running.reaches_settled (h : s.Running Config.hw) (hp : s.phase = .settle) (hn : s.settlecnt = 0) {k : Nat}
    (hk : k ≤ 5) : s.Reaches k { s with settlecnt := BitVec.ofNat 3 k } := by
  induction k with
  | zero =>
    rw [← show s.settlecnt = BitVec.ofNat 3 0 from hn]
    exact reaches_zero_self s
  | succ k ih =>
    have hprev := ih (Nat.le_of_succ_le hk)
    have hu := h.of_reaches hprev
    have hlt : (BitVec.ofNat 3 k).toNat < 5 := (Nat.mod_le k _).trans_lt hk
    rw [BitVec.ofNat_add]
    exact reaches_add _ _ _ k 1 hprev (reaches_one (step_settle_more hu.2 hu.specInvariants hp hlt))

/-- A digit is 56 operations: its delivery and six units of settle time (R150, R154). -/
theorem State.Running.reaches_afterDigit (h : s.Running Config.hw) (hp : s.phase = .begin) : s.Reaches 56 s.afterDigit := by
  have hdel := digitDeliversItsWord s h hp
  have hsettled := reaches_add _ _ _ 50 5 hdel ((h.of_reaches hdel).reaches_settled rfl rfl le_rfl)
  have hl := h.of_reaches hsettled
  exact reaches_add _ _ _ 55 1 hsettled (reaches_one (step_settle_last hl.2 hl.specInvariants rfl rfl))

theorem State.untilLatch_delivered (s : State) : s.delivered.untilLatch + 51 = if s.i = 3 then 108 else 106 := by
  show 6 + (if s.i = 3 then 51 else 49) + 51 = _
  split <;> rfl

/-- Settles O52: the settle time completes the digit, and from the delivery OUT holds as long as no further DLATCH has run. -/
theorem digitTakesFiftySixSteps : Obligations.DigitTakesFiftySixSteps := by
  unfold Obligations.DigitTakesFiftySixSteps
  intro s h hp
  refine ⟨h.reaches_afterDigit hp, fun n t hmin hmax ht => ?_⟩
  have hdel := digitDeliversItsWord s h hp
  obtain ⟨k, rfl⟩ := Nat.exists_eq_add_of_le hmin
  rw [← s.untilLatch_delivered] at hmax
  exact (h.of_reaches hdel).out_before_latch (by omega) (reaches_of_reaches_add hdel ht)

/-! ### The frame -/

/-- A digit overwrites all that the digit before it has left in the lines, the chain and the counters. -/
theorem State.afterDigit_afterDigit (s : State) : s.afterDigit.afterDigit = { s with i := s.i + 1 }.afterDigit := rfl

/-- The frame up to the end of its digit `k` takes 56 operations for every digit (R151, R154). -/
theorem State.Running.reaches_digit_end (h : s.Running Config.hw) (hp : s.phase = .begin) (hi : s.i = 0) {k : Nat} (hk : k < 4) :
    s.Reaches (56 * (k + 1)) { s with i := BitVec.ofNat 2 k }.afterDigit := by
  induction k with
  | zero =>
    rw [← show s.i = BitVec.ofNat 2 0 from hi]
    exact h.reaches_afterDigit hp
  | succ k ih =>
    have hprev := ih (Nat.lt_of_succ_lt hk)
    have hnext := (h.of_reaches hprev).reaches_afterDigit (if_neg (ofNat_ne_of_lt (Nat.lt_of_succ_lt_succ hk) (by decide)))
    rw [State.afterDigit_afterDigit] at hnext
    rw [BitVec.ofNat_add]
    exact reaches_add _ _ _ (56 * (k + 1)) 56 hprev hnext

/-- In the frame that begins in `s`, digit `d` is latched 50 operations after its own DBEGIN begins (R151, R155). -/
theorem State.Running.exists_reaches_digit (h : s.Running Config.hw) (hp : s.phase = .begin) (hi : s.i = 0) (d : BitVec 2) :
    ∃ t, s.Reaches (56 * d.toNat + 50) t ∧ t.out = s.wordFor d ∧ t.i = d := by
  obtain ⟨k, hk, rfl⟩ : ∃ k < 4, d = BitVec.ofNat 2 k := ⟨d.toNat, d.isLt, (BitVec.ofNat_toNat 2 d).symm⟩
  rw [BitVec.toNat_ofNat, Nat.mod_eq_of_lt (show k < 2 ^ 2 from hk)]
  cases k with
  | zero =>
    rw [← show s.i = BitVec.ofNat 2 0 from hi]
    exact ⟨s.delivered, digitDeliversItsWord s h hp, rfl, rfl⟩
  | succ k =>
    have hprev := h.reaches_digit_end hp hi (Nat.lt_of_succ_lt hk)
    have hdel := digitDeliversItsWord _ (h.of_reaches hprev)
      (if_neg (ofNat_ne_of_lt (Nat.lt_of_succ_lt_succ hk) (by decide)))
    rw [BitVec.ofNat_add]
    exact ⟨_, reaches_add _ _ _ (56 * (k + 1)) 50 hprev hdel, rfl, rfl⟩

/-- The state at the end of the frame that begins in `s`, before FEND. -/
def State.afterFrame (s : State) : State :=
  { s with
    w := s.wordFor 3, sdat := (s.wordFor 3).getLsbD 0, sclk := false, strb := true, sr := s.wordFor 3, out := s.wordFor 3,
    bitcnt := 15, settlecnt := 5, i := 0, phase := .frameEnd }

theorem State.afterDigit_three (s : State) : { s with i := 3 }.afterDigit = s.afterFrame := by
  rw [State.afterFrame, ← show (3 : DigitAddr) + 1 = 0 by decide]
  rfl

/-- The four digits of a frame take 224 operations (R154). -/
theorem State.Running.reaches_afterFrame (h : s.Running Config.hw) (hp : s.phase = .begin) (hi : s.i = 0) :
    s.Reaches 224 s.afterFrame :=
  s.afterDigit_three ▸ h.reaches_digit_end hp hi (k := 3) (by decide)

/-- Settles O53: digit by digit, each of which starts where the one before it ends. -/
theorem frameShowsTheFourDigitsInOrder : Obligations.FrameShowsTheFourDigitsInOrder := by
  unfold Obligations.FrameShowsTheFourDigitsInOrder
  intro s h hp hi
  exact ⟨h.exists_reaches_digit hp hi, h.reaches_afterFrame hp hi⟩

end Sys2Proof.Machine
end

section
/-! What the display shows of a frame (41_scan_out_engine R151, 42_display_chain R183, R184, R186). -/

namespace Sys2Proof.Machine

/-- Bit `p` of the enables is the one of the address (R184). -/
theorem getLsbD_digitEnOf (d : DigitAddr) {p : Nat} (hp : p < 4) : (digitEnOf d).getLsbD p = decide (p = d.toNat) := by
  revert d
  interval_cases p <;> decide

/-- A glyph without reserved bits has no address of its own (R94, R127). -/
theorem extractLsb'_address_of_le {g : Glyph} (hg : g.toNat ≤ 0x3FFF) : g.extractLsb' 14 2 = 0 := by
  rw [← dselOf_hw]
  refine BitVec.eq_of_toNat_eq ?_
  rw [toNat_dselOf]
  exact Nat.div_eq_of_lt (Nat.lt_succ_of_le hg)

/-- The word of a glyph without reserved bits enables its digit position (R190). -/
theorem dselOf_packWord_of_le (d : DigitAddr) {g : Glyph} (hg : g.toNat ≤ 0x3FFF) :
    dselOf Config.hw (packWord Config.hw d g) = d := by
  obtain ⟨-, -, -, hdsel, -⟩ := packRowAddsTheDigitAddress d g State.reset
  rw [hdsel, extractLsb'_address_of_le hg]
  exact BitVec.zero_add d

/-- The segments of a word are those of its glyph (R97, R183). -/
theorem getLsbD_segOf_packWord (d : DigitAddr) (g : Glyph) {k : Nat} (hk : k < 14) :
    (segOf Config.hw (packWord Config.hw d g)).getLsbD k = g.getLsbD k := by
  obtain ⟨-, -, -, -, hseg⟩ := packRowAddsTheDigitAddress d g State.reset
  rw [hseg, segOf_hw, BitVec.getLsbD_extractLsb', decide_eq_true hk, Bool.true_and, Nat.zero_add]

/-- With the word of a glyph without reserved bits in OUT, that glyph is lit at its own position and nowhere else (R184, R186). -/
theorem State.lit_iff_of_out {t : State} {d : DigitAddr} {g : Glyph} (ht : t.out = packWord Config.hw d g)
    (hg : g.toNat ≤ 0x3FFF) {p k : Nat} (hp : p < 4) (hk : k < 14) : t.lit p k = true ↔ p = d.toNat ∧ g.getLsbD k = true := by
  rw [State.lit, State.digitEn, State.dsel, State.seg, ht, dselOf_packWord_of_le d hg, getLsbD_segOf_packWord d g hk,
    getLsbD_digitEnOf d hp, Bool.and_eq_true, decide_eq_true_eq]

/-- Settles O54: digit `d` is latched with the word of its character, which is lit at position `d` alone. -/
theorem displayReadsTheWindowLeftToRight : Obligations.DisplayReadsTheWindowLeftToRight := by
  unfold Obligations.DisplayReadsTheWindowLeftToRight
  intro s h hp hi d
  obtain ⟨t, ht, hout, -⟩ := h.exists_reaches_digit hp hi d
  exact ⟨t, s.charAt d, ht, State.getElem?_charAt h.specInvariants.1 d, hout, fun hg _ _ => State.lit_iff_of_out hout hg⟩

end Sys2Proof.Machine
end

section
/-! The turns of the loop (41_scan_out_engine R152 to R158): a turn counts one frame, and the frames counted since the first window
begin again after 10 len of them. -/

namespace Sys2Proof.Machine

variable {s : State}

/-- Without a replacement the check only moves the channel on (R153, R210). -/
theorem step_check_noReplacement (h : s.Running Config.hw) (hp : s.phase = .check) (hno : s.NoReplacement 1) :
    step s = .next { s with inputs := s.inputs.drop 1, phase := .begin } := by
  rw [step_check h.2 h.specInvariants hp h.hostOk, State.gather_noReplacement hno]
  simp only [hno.1]
  rfl

/-- FEND and a check without a replacement, from the end of a frame that is not the tenth (R152, R153). -/
theorem State.Running.reaches_next_frame (h : s.Running Config.hw) (hp : s.phase = .frameEnd) (hno : s.NoReplacement 1)
    (hn : s.loops ≠ 9) : s.Reaches 2 { s with loops := s.loops + 1, inputs := s.inputs.drop 1, phase := .begin } := by
  have hend := step_frameEnd_more h.2 h.specInvariants hp hn
  exact (reaches_succ s _ 1).2 ⟨_, hend, reaches_one (step_check_noReplacement (h.1.running_of_step hend) rfl hno)⟩

/-- The same from the end of the tenth frame. -/
theorem State.Running.reaches_next_window (h : s.Running Config.hw) (hp : s.phase = .frameEnd) (hno : s.NoReplacement 1)
    (hn : s.loops = 9) : s.Reaches 2 { s with
      loops := 0, j := BitVec.ofNat 7 ((s.j.toNat + 1) % s.len), inputs := s.inputs.drop 1, phase := .begin } := by
  have hend := step_frameEnd_due h.2 h.specInvariants hp hn
  exact (reaches_succ s _ 1).2 ⟨_, hend, reaches_one (step_check_noReplacement (h.1.running_of_step hend) rfl hno)⟩

/-- Settles O56: the frame ends after 224 operations with the scan state as it was, FEND counts it and the check only moves the
channel on. -/
theorem loopTurnCountsOneFrame : Obligations.LoopTurnCountsOneFrame := by
  unfold Obligations.LoopTurnCountsOneFrame
  intro s h hp hi hno
  have hframe := h.reaches_afterFrame hp hi
  have hend := h.of_reaches hframe
  by_cases hn : s.loops = 9
  · have ht := reaches_add _ _ _ 224 2 hframe (hend.reaches_next_window rfl hno hn)
    exact ⟨_, ht, h.of_reaches ht, rfl, rfl, rfl, rfl, hno.1, rfl, fun hne => absurd hn hne,
      fun _ => ⟨rfl, h.specInvariants.1.toNat_nextOffset⟩⟩
  · have ht := reaches_add _ _ _ 224 2 hframe (hend.reaches_next_frame rfl hno hn)
    exact ⟨_, ht, h.of_reaches ht, rfl, rfl, rfl, rfl, hno.1, rfl, fun _ => ⟨rfl, rfl⟩, fun e => absurd e hn⟩

/-! ### The scan position -/

/-- The frames counted since the window last stood at the first character: ten for every place of the window (R152). -/
def State.scanCount (s : State) : Nat := 10 * s.j.toNat + s.loops.toNat

/-- The start of a frame in a run. -/
abbrev State.AtFrameStart (s : State) : Prop := s.Running Config.hw ∧ s.phase = .begin ∧ s.i = 0

/-- In range, the scan position determines `j` and `loops`. -/
theorem State.InRanges.of_scanCount_eq (hr : s.InRanges Config.hw) {a b : Nat} (hb : b < 10) (h : s.scanCount = 10 * a + b) :
    s.j.toNat = a ∧ s.loops.toNat = b := by
  obtain ⟨-, -, -, hloops⟩ := s.inRanges_hw.1 hr
  unfold State.scanCount at h
  omega

theorem State.InRanges.scanCount_lt (hr : s.InRanges Config.hw) : s.scanCount < 10 * s.len := by
  obtain ⟨-, -, hj, hloops⟩ := s.inRanges_hw.1 hr
  unfold State.scanCount
  omega

theorem State.NoReplacement.mono {m n : Nat} (hno : s.NoReplacement n) (hm : m ≤ n) : s.NoReplacement m :=
  ⟨hno.1, fun burst hb => hno.2 burst (List.mem_of_mem_take (i := m) (by rwa [List.take_take, Nat.min_eq_left hm]))⟩

/-- No replacement at the next `n + 1` checks leaves none at the next `n` once the channel is one element further. -/
theorem State.NoReplacement.tail {n : Nat} {t : State} (hno : s.NoReplacement (n + 1)) (ho : t.offer = none)
    (hi : t.inputs = s.inputs.drop 1) : t.NoReplacement n := by
  refine ⟨ho, fun burst hb => hno.2 burst ?_⟩
  have htail : (s.inputs.take (n + 1)).drop 1 = (s.inputs.drop 1).take n := List.drop_take
  rw [hi, ← htail] at hb
  exact List.mem_of_mem_drop hb

/-- A turn moves the scan position on by one of its 10 len places (R152, R157). -/
theorem State.AtFrameStart.exists_turn (h : s.AtFrameStart) {n : Nat} (hno : s.NoReplacement (n + 1)) :
    ∃ t, s.Reaches 226 t ∧ t.AtFrameStart ∧ t.NoReplacement n ∧ t.msg = s.msg ∧
      t.scanCount = (s.scanCount + 1) % (10 * s.len) := by
  obtain ⟨hrun, hp, hi⟩ := h
  obtain ⟨-, -, hj, hloops⟩ := s.inRanges_hw.1 hrun.specInvariants.1
  obtain ⟨t, ht, htrun, htp, hti, hmsg, -, ho, hin, hmore, hdue⟩ :=
    loopTurnCountsOneFrame s hrun hp hi (hno.mono (Nat.succ_pos n))
  refine ⟨t, ht, ⟨htrun, htp, hti⟩, hno.tail ho hin, hmsg, ?_⟩
  by_cases hn : s.loops = 9
  · obtain ⟨htl, htj⟩ := hdue hn
    calc t.scanCount = 10 * ((s.j.toNat + 1) % s.len) := by simp [State.scanCount, htl, htj]
      _ = 10 * (s.j.toNat + 1) % (10 * s.len) := (Nat.mul_mod_mul_left _ _ _).symm
      _ = (s.scanCount + 1) % (10 * s.len) := by simp [State.scanCount, hn, Nat.mul_add]
  · obtain ⟨htl, htj⟩ := hmore hn
    have hlt : s.loops.toNat < 9 := lt_of_le_of_ne (Nat.le_of_lt_succ hloops) fun e => hn (BitVec.eq_of_toNat_eq e)
    have hadd : (s.loops + 1).toNat = s.loops.toNat + 1 :=
      BitVec.toNat_add_of_lt (show s.loops.toNat + 1 < 16 by omega)
    have hcount : t.scanCount = s.scanCount + 1 := by rw [State.scanCount, htl, htj, hadd, State.scanCount, Nat.add_assoc]
    rw [hcount, Nat.mod_eq_of_lt]
    unfold State.scanCount
    omega

/-- So do `n` turns, by `n` places. -/
theorem State.AtFrameStart.exists_turns {n : Nat} (h : s.AtFrameStart) (hno : s.NoReplacement n) :
    ∃ t, s.Reaches (226 * n) t ∧ t.AtFrameStart ∧ t.msg = s.msg ∧ t.scanCount = (s.scanCount + n) % (10 * s.len) := by
  induction n generalizing s with
  | zero =>
    exact ⟨s, reaches_zero_self s, h, rfl, (Nat.mod_eq_of_lt (h.1.specInvariants.1.scanCount_lt)).symm⟩
  | succ n ih =>
    obtain ⟨u, hu, hustart, huno, humsg, hucount⟩ := h.exists_turn hno
    obtain ⟨t, ht, htstart, htmsg, htcount⟩ := ih hustart huno
    refine ⟨t, ?_, htstart, htmsg.trans humsg, ?_⟩
    · rw [Nat.mul_succ, Nat.add_comm]
      exact reaches_add _ _ _ 226 (226 * n) hu ht
    · have hlen : u.len = s.len := congrArg List.length humsg
      rw [htcount, hucount, hlen, Nat.mod_add_mod, Nat.add_assoc, Nat.add_comm 1 n]

/-- Settles O57: from the first frame at a place of the window the scan position moves through the ten frames of that place. -/
theorem windowAdvancesOncePerTenFrames : Obligations.WindowAdvancesOncePerTenFrames := by
  unfold Obligations.WindowAdvancesOncePerTenFrames
  intro s h hp hi hno hloops
  have hstart : s.AtFrameStart := ⟨h, hp, hi⟩
  obtain ⟨-, -, hj, -⟩ := s.inRanges_hw.1 h.specInvariants.1
  have hcount : s.scanCount = 10 * s.j.toNat := by simp [State.scanCount, hloops]
  refine ⟨fun n hn => ?_, ?_⟩
  · obtain ⟨t, ht, ⟨htrun, htp, -⟩, -, htcount⟩ := hstart.exists_turns (hno.mono hn.le)
    rw [hcount, Nat.mod_eq_of_lt (by omega)] at htcount
    obtain ⟨htj, htl⟩ := htrun.specInvariants.1.of_scanCount_eq hn htcount
    exact ⟨t, ht, htp, BitVec.eq_of_toNat_eq htj, htl⟩
  · obtain ⟨t, ht, ⟨htrun, htp, -⟩, -, htcount⟩ := hstart.exists_turns hno
    rw [hcount, ← Nat.mul_succ, Nat.mul_mod_mul_left] at htcount
    obtain ⟨htj, htl⟩ := htrun.specInvariants.1.of_scanCount_eq (b := 0) (by decide) htcount
    exact ⟨t, ht, htp, BitVec.eq_of_toNat_eq htl, htj⟩

/-- Settles O58: 10 len turns take the scan position once through all its places. -/
theorem scrollIsPeriodic : Obligations.ScrollIsPeriodic := by
  unfold Obligations.ScrollIsPeriodic
  intro s h hp hi hno
  have hstart : s.AtFrameStart := ⟨h, hp, hi⟩
  have hr := h.specInvariants.1
  obtain ⟨t, ht, ⟨htrun, htp, hti⟩, hmsg, htcount⟩ := hstart.exists_turns hno
  rw [Nat.add_mod_right, Nat.mod_eq_of_lt (hr.scanCount_lt)] at htcount
  obtain ⟨-, -, -, hloops⟩ := s.inRanges_hw.1 hr
  obtain ⟨htj, htl⟩ := htrun.specInvariants.1.of_scanCount_eq hloops htcount
  rw [← Nat.mul_assoc] at ht
  exact ⟨t, ht, htp, hti, hmsg, BitVec.eq_of_toNat_eq htj, BitVec.eq_of_toNat_eq htl⟩

end Sys2Proof.Machine
end

section
/-! The display chain and the wires that it drives (42_display_chain R181 to R190). -/

namespace Sys2Proof.Machine

variable (s : State)

/-! ### The wires (R183, R184) -/

/-- Enable `k` is on exactly when the address is `k` (R184). -/
theorem State.getLsbD_digitEn_iff {k : Nat} (hk : k < 4) : s.digitEn.getLsbD k = true ↔ s.dsel.toNat = k := by
  rw [State.digitEn, getLsbD_digitEnOf s.dsel hk, decide_eq_true_iff, eq_comm]

/-- Only the enabled digit shows SEG (R184). -/
theorem State.lit_iff {d : Nat} (hd : d < 4) (k : Nat) : s.lit d k = true ↔ s.dsel.toNat = d ∧ s.seg.getLsbD k = true := by
  rw [State.lit, Bool.and_eq_true, s.getLsbD_digitEn_iff hd]

theorem State.getLsbD_seg {k : Nat} (hk : k < 14) : s.seg.getLsbD k = s.out.getLsbD k := by
  rw [State.seg, segOf_hw, BitVec.getLsbD_extractLsb', decide_eq_true hk, Bool.true_and, Nat.zero_add]

/-- Settles O16: DSEL is the quotient of OUT, and the enables and the lit segments are those of that address. -/
theorem outEnablesExactlyOneDigit : Obligations.OutEnablesExactlyOneDigit := by
  unfold Obligations.OutEnablesExactlyOneDigit
  intro s
  exact ⟨toNat_dselOf s.out, s.dsel.isLt, fun _ => s.getLsbD_digitEn_iff, fun _ k hd _ => s.lit_iff hd k⟩

/-- Settles O17: SEG is the remainder of OUT, and DSEL is the one position at which it shows. -/
theorem outDrivesTheSegmentLines : Obligations.OutDrivesTheSegmentLines := by
  unfold Obligations.OutDrivesTheSegmentLines
  intro s
  refine ⟨toNat_segOf s.out, fun k hk => ?_⟩
  rw [s.lit_iff s.dsel.isLt, eq_self, true_and, s.getLsbD_seg hk]

/-! ### The two rows of the chain (R181, R182) -/

/-- The first stage takes SDAT. -/
theorem State.getLsbD_shift_sr_zero : s.shift.sr.getLsbD 0 = s.sdat := by
  rw [State.shift_sr, BitVec.getLsbD_append]
  simp

/-- Every further stage takes the one before it. -/
theorem State.getLsbD_shift_sr_succ {k : Nat} (hk : k < 15) : s.shift.sr.getLsbD (k + 1) = s.sr.getLsbD k := by
  rw [State.shift_sr, BitVec.getLsbD_append]
  simp [hk]

/-- Settles O30: the rows are SHIFT and LATCHOUT, and SHIFT moves every stage on by one. -/
theorem chainRowsShiftAndLatch : Obligations.ChainRowsShiftAndLatch := by
  unfold Obligations.ChainRowsShiftAndLatch
  intro s
  exact ⟨rfl, s.shift.sr, rfl, s.getLsbD_shift_sr_zero, fun _ => s.getLsbD_shift_sr_succ⟩

/-! ### A word shifted in (R66, R185) -/

/-- The first `n` bits of a word, presented and shifted in one after the other, move SR along the word. -/
theorem foldl_shift_sr (w : TxWord) {n : Nat} (hn : n ≤ 16) :
    ((List.range n).foldl (fun t k => (t.driveSdat (w.getLsbD (15 - k))).shift) s).sr = shiftedIn w s.sr n := by
  induction n with
  | zero => exact (shiftedIn_zero w s.sr).symm
  | succ n ih =>
    rw [List.range_succ, List.foldl_concat, State.shift_sr, State.driveSdat_sr, State.driveSdat_sdat,
      ih (Nat.le_of_succ_le hn), shiftedIn_succ w s.sr hn]

/-- Settles O31: after all sixteen bits nothing of the old contents of SR is left. -/
theorem sixteenShiftsLoadTheWord : Obligations.SixteenShiftsLoadTheWord := by
  unfold Obligations.SixteenShiftsLoadTheWord
  intro s w
  rw [foldl_shift_sr s w le_rfl, shiftedIn_sixteen]

/-! ### The edges (R181, R182, R189) -/

/-- From `s` to `t` the chain does what the edges of SCLK and STRB make it do: SR shifts at a rising edge of SCLK and OUT takes SR
at a rising edge of STRB, and neither changes otherwise. -/
def FollowsEdges (s t : State) : Prop :=
  t.sr = (if s.sclk = false ∧ t.sclk = true then s.shift.sr else s.sr) ∧
  t.out = (if s.strb = false ∧ t.strb = true then s.sr else s.out)

variable {s} {t : State}

/-- Without a rising edge the chain keeps its contents (R189). -/
theorem FollowsEdges.of_no_rise (hc : t.sclk = true → s.sclk = true) (hb : t.strb = true → s.strb = true) (hsr : t.sr = s.sr)
    (hout : t.out = s.out) : FollowsEdges s t := by
  have hnc : ¬ (s.sclk = false ∧ t.sclk = true) := fun ⟨hlow, hhigh⟩ => by simp [hc hhigh] at hlow
  have hnb : ¬ (s.strb = false ∧ t.strb = true) := fun ⟨hlow, hhigh⟩ => by simp [hb hhigh] at hlow
  rw [FollowsEdges, if_neg hnc, if_neg hnb]
  exact ⟨hsr, hout⟩

/-- Nor does it change where both lines keep their levels. -/
theorem FollowsEdges.of_steady (hc : t.sclk = s.sclk) (hb : t.strb = s.strb) (hsr : t.sr = s.sr) (hout : t.out = s.out) :
    FollowsEdges s t := .of_no_rise (hc ▸ id) (hb ▸ id) hsr hout

theorem followsEdges_driveSclk (s : State) (b : Bool) : FollowsEdges s (s.driveSclk b) :=
  ⟨by simp [and_comm], by simp⟩

theorem followsEdges_driveStrb (s : State) (b : Bool) : FollowsEdges s (s.driveStrb b) :=
  ⟨by simp, by simp [and_comm]⟩

theorem followsEdges_gather (s : State) (c : Config) : FollowsEdges s (s.gather c) := by
  obtain ⟨inputs, offer, h⟩ := s.gather_eq c
  rw [h]
  exact .of_steady rfl rfl rfl rfl

/-- In an engine operation the chain follows the edges of the line that its phase drives (R145, R147). -/
theorem followsEdges_of_exec_phaseRow (h : exec (phaseRow s.phase) s = .next t) : FollowsEdges s t := by
  cases hp : s.phase <;> rw [hp] at h
  case check =>
    obtain ⟨-, -, ⟨-, rfl⟩ | ⟨m, -, -, rfl⟩⟩ := (mcheck_next_iff Config.hw s t).1 h
    · exact followsEdges_gather s Config.hw
    · exact followsEdges_gather s Config.hw
  case begin =>
    obtain ⟨-, -, ch, -, rfl⟩ := (dbegin_next_iff Config.hw s t).1 h
    exact followsEdges_driveStrb s false
  case setup =>
    obtain ⟨-, -, rfl⟩ := (bset_next_iff Config.hw s t).1 h
    exact .of_steady rfl rfl rfl rfl
  case rise =>
    obtain ⟨-, -, rfl⟩ := (brise_next_iff Config.hw s t).1 h
    exact followsEdges_driveSclk s true
  case fall =>
    obtain ⟨-, -, -, rfl⟩ := (bfall_next_iff Config.hw s t).1 h
    split
    · exact followsEdges_driveSclk s false
    · exact followsEdges_driveSclk s false
  case latch =>
    obtain ⟨-, -, -, rfl⟩ := (dlatch_next_iff Config.hw s t).1 h
    exact followsEdges_driveStrb s true
  case settle =>
    obtain ⟨-, -, -, rfl⟩ := (dsettle_next_iff Config.hw s t).1 h
    split_ifs <;> exact .of_steady rfl rfl rfl rfl
  case frameEnd =>
    obtain ⟨-, -, rfl⟩ := (fend_next_iff Config.hw s t).1 h
    split_ifs <;> exact .of_steady rfl rfl rfl rfl

/-- INIT lowers both lines and leaves the chain as it was (R35, R200). -/
theorem followsEdges_of_exec_init (h : exec .init s = .next t) : FollowsEdges s t := by
  obtain rfl := (next_eq_next _ t).1 ((initMachine_hw s).symm.trans h)
  exact .of_no_rise Bool.noConfusion Bool.noConfusion rfl rfl

theorem followsEdges_of_step (h : step s = .next t) : FollowsEdges s t := by
  cases hs : s.started with
  | false => exact followsEdges_of_exec_init (step_unstarted s hs ▸ h)
  | true => exact followsEdges_of_exec_phaseRow (step_started s hs ▸ h)

/-- Settles O32: every operation drives the lines by edges that the chain follows, or leaves lines and chain as they are. -/
theorem chainActsOnRisingEdgesOnly : Obligations.ChainActsOnRisingEdgesOnly := by
  unfold Obligations.ChainActsOnRisingEdgesOnly
  intro s t h
  rw [← s.shift_sr_eq]
  exact followsEdges_of_step h

/-! ### The address of a delivered glyph (R127, R190) -/

theorem State.dsel_delivered (s : State) :
    s.delivered.dsel = (translate Config.hw (s.charAt s.i)).extractLsb' 14 2 + s.i := by
  obtain ⟨-, -, -, hdsel, -⟩ := packRowAddsTheDigitAddress s.i (translate Config.hw (s.charAt s.i)) s
  exact hdsel

theorem State.seg_delivered (s : State) : s.delivered.seg = segOf Config.hw (translate Config.hw (s.charAt s.i)) := by
  obtain ⟨-, -, -, -, hseg⟩ := packRowAddsTheDigitAddress s.i (translate Config.hw (s.charAt s.i)) s
  exact hseg

/-- Settles O55: the delivered word adds the digit position to the address of the glyph, which a well-formed one has at 0. -/
theorem wellFormedGlyphsReachTheirDigit : Obligations.WellFormedGlyphsReachTheirDigit := by
  unfold Obligations.WellFormedGlyphsReachTheirDigit
  intro s h hp
  refine ⟨s.delivered, digitDeliversItsWord s h hp, s.dsel_delivered, s.seg_delivered, fun hg => ?_⟩
  have hdsel : s.delivered.dsel = s.i := dselOf_packWord_of_le s.i hg
  exact ⟨hdsel, (s.delivered.getLsbD_digitEn_iff s.i_lt).2 (congrArg BitVec.toNat hdsel)⟩

end Sys2Proof.Machine
end

section
/-! The host's side (43_host_interface R200 to R212): what the store holds after a save and what a load makes of it, what the
channel makes of a burst, and the host's rows. -/

namespace Sys2Proof.Machine

/-! ### The store after a save (R205, R206) -/

/-- A save is torn when not all of the record's bytes are written (R206). -/
theorem saveRecord_eq_tornSave (mem : List Host.Cell) (m : Message) :
    saveRecord mem m = tornSave mem m (recordBytes m).length := by
  rw [saveRecord, tornSave, List.take_length]

section
variable {mem : List Host.Cell} {m : Message} (hwf : storeWf mem = true)
include hwf

/-- A byte of the store is the record's where the writes have come so far, and the old one elsewhere. -/
theorem storeRead_tornSave (n x : Nat) :
    storeRead (tornSave mem m n) x = ((recordBytes m).take n).getD x (storeRead mem x) := by
  rw [tornSave, storeRead_writeFrom _ mem 0 x hwf, if_pos (Nat.zero_le x), Nat.sub_zero]

theorem storeRead_saveRecord (x : Nat) : storeRead (saveRecord mem m) x = (recordBytes m).getD x (storeRead mem x) := by
  rw [saveRecord_eq_tornSave, storeRead_tornSave hwf, List.take_length]

theorem storeRead_saveRecord_terminator : storeRead (saveRecord mem m) (m.length + 1) = 0x00 := by
  simp [storeRead_saveRecord hwf, recordBytes]

theorem storeRead_saveRecord_above {a : Nat} (ha : m.length + 1 < a) : storeRead (saveRecord mem m) a = storeRead mem a := by
  have hend : (recordBytes m).length ≤ a := by simpa [recordBytes] using ha
  rw [storeRead_saveRecord hwf, List.getD_eq_default _ _ hend]

theorem storeRead_saveRecord_char {k : Nat} (hk : k < m.length) : m[k]? = some (storeRead (saveRecord mem m) (k + 1)) := by
  simp [storeRead_saveRecord hwf, recordBytes, List.getElem?_append_left hk, hk]

/-- The first write of a save puts the new length in its place; a length of at most 128 is a byte. -/
theorem toNat_storeRead_tornSave_zero {n : Nat} (hn : 1 ≤ n) (hmax : m.length ≤ 128) :
    (storeRead (tornSave mem m n) 0).toNat = m.length := by
  obtain ⟨n, rfl⟩ := Nat.exists_eq_add_of_le' hn
  rw [storeRead_tornSave hwf]
  exact Nat.mod_eq_of_lt (Nat.lt_succ_of_le (hmax.trans (by decide)))

theorem toNat_storeRead_saveRecord_zero (hmax : m.length ≤ 128) : (storeRead (saveRecord mem m) 0).toNat = m.length := by
  rw [saveRecord_eq_tornSave]
  exact toNat_storeRead_tornSave_zero hwf (Nat.succ_pos _) hmax

/-- After a torn save the byte at a character's place is the new character or the old byte. -/
theorem storeRead_tornSave_char (n : Nat) {k : Nat} (hk : k < m.length) :
    m[k]? = some (storeRead (tornSave mem m n) (k + 1)) ∨ storeRead (tornSave mem m n) (k + 1) = storeRead mem (k + 1) := by
  rw [storeRead_tornSave hwf]
  by_cases hn : k + 1 < n
  · exact .inl (by simp [List.getElem?_take_of_lt hn, recordBytes, List.getElem?_append_left hk, hk])
  · exact .inr (List.getD_eq_default _ _ ((List.length_take_le _ _).trans (Nat.not_lt.1 hn)))

theorem storeReadFrom_saveRecord : storeReadFrom (saveRecord mem m) 1 m.length = m := by
  apply List.ext_getElem?
  intro k
  rw [storeReadFrom_getElem?, Nat.add_comm 1 k]
  split
  · next hk => exact (storeRead_saveRecord_char hwf hk).symm
  · next hk => exact (List.getElem?_eq_none (Nat.not_lt.1 hk)).symm

end

/-! ### What a load makes of the store (R204) -/

theorem mem_storeReadFrom_iff (mem : List Host.Cell) (a n : Nat) (b : Byte) :
    b ∈ storeReadFrom mem a n ↔ ∃ k < n, storeRead mem (a + k) = b := by
  simp [List.mem_iff_getElem?, storeReadFrom_getElem?]

/-- STORE_LOAD with the source's numbers, in the order of its tests: the length, then the characters. -/
theorem loadRecord_hw {mem : List Host.Cell} {len : Nat} (hlen : (storeRead mem 0).toNat = len) :
    loadRecord Config.hw mem =
      if len = 0 ∨ 128 < len then Config.hw.defaultMsg
      else if 0x00 ∈ storeReadFrom mem 1 len ∨ 0xFF ∈ storeReadFrom mem 1 len then Config.hw.defaultMsg
      else storeReadFrom mem 1 len := by
  simp only [loadRecord, hlen, Config.hw_msgMin, Config.hw_msgMax, length_out_of_range_iff, any_isTerminator]

/-- A saved message without a terminator among its characters is loaded again (R207). -/
theorem loadRecord_saveRecord {mem : List Host.Cell} {m : Message} (hwf : storeWf mem = true) (hmin : 1 ≤ m.length)
    (hmax : m.length ≤ 128) (h0 : 0x00 ∉ m) (h1 : 0xFF ∉ m) : loadRecord Config.hw (saveRecord mem m) = m := by
  rw [loadRecord_hw (toNat_storeRead_saveRecord_zero hwf hmax), storeReadFrom_saveRecord hwf, if_neg (by omega),
    if_neg (not_or.2 ⟨h0, h1⟩)]

/-! ### The channel (R208 to R211) -/

/-- ACCUMULATE takes the burst that waits longest; what it makes no message of leaves the offer as it was. -/
theorem State.accumulate_cons {s : State} {burst : List Byte} {later : List (List Byte)} (hi : s.inputs = burst :: later)
    (c : Config) : s.accumulate c =
      { s with inputs := burstRest c burst ++ later, offer := (burstOffer c burst).or s.offer } := by
  simp only [State.accumulate, hi]
  cases burstOffer c burst <;> rfl

theorem State.accumulate_nil {s : State} (hi : s.inputs = []) (c : Config) : s.accumulate c = s := by
  rw [State.accumulate, hi]

/-- Without a pending offer a check reads the channel (R212). -/
theorem State.gather_of_no_offer {s : State} (ho : s.offer = none) (c : Config) : s.gather c = s.accumulate c := if_pos ho

theorem burstOffer_nil : burstOffer Config.hw [] = none := rfl

theorem burstOffer_of_length {burst : List Byte} (hmin : 1 ≤ burst.length) (hmax : burst.length ≤ 128) :
    burstOffer Config.hw burst = some burst := by
  have hshort : ¬ burst.length < 1 := Nat.not_lt.2 hmin
  simp [burstOffer, hmax, hshort]

theorem burstRest_of_length_le {burst : List Byte} (hmax : burst.length ≤ 128) : burstRest Config.hw burst = [] := by
  simp [burstRest, hmax]

theorem length_of_burstOffer {burst : List Byte} {m : Message} (h : burstOffer Config.hw burst = some m) :
    1 ≤ m.length ∧ m.length ≤ 128 := (validMsg_hw m).1 (burstOffer_valid Config.hw burst m h)

/-- Settles O37: the burst that waits longest is the offer where it makes a message, and that is a valid one. -/
theorem accumulateBuildsTheOffer : Obligations.AccumulateBuildsTheOffer := by
  unfold Obligations.AccumulateBuildsTheOffer
  intro s
  have hexec : exec .accumulate s = .next (s.accumulate Config.hw) := rfl
  rw [hexec]
  refine ⟨fun hi => by rw [State.accumulate_nil hi], fun burst later hi => ?_⟩
  rw [State.accumulate_cons hi]
  refine ⟨?_, fun hmin hmax => ?_, fun _ => ⟨_, _, rfl, ?_⟩⟩
  · rintro rfl
    rfl
  · rw [burstOffer_of_length hmin hmax, burstRest_of_length_le hmax]
    rfl
  · cases hb : burstOffer Config.hw burst with
    | none => exact .inl rfl
    | some m => exact .inr ⟨m, rfl, length_of_burstOffer hb⟩

/-! ### The check (R153, R202, R212) -/

section
variable {s : State} (hr : s.SpecInvariants Config.hw) (hp : s.phase = .check)
include hr hp

theorem exec_mcheck_of_gather_none (hg : (s.gather Config.hw).offer = none) :
    exec .mcheck s = .next ((s.gather Config.hw).toPhase .begin) :=
  (mcheck_next_iff Config.hw s _).2 ⟨hr, hp, .inl ⟨hg, rfl⟩⟩

theorem exec_mcheck_of_gather_some {m : Message} (hg : (s.gather Config.hw).offer = some m) (hmin : 1 ≤ m.length)
    (hmax : m.length ≤ 128) : exec .mcheck s = .next ((acceptOffer (s.gather Config.hw) m).toPhase .begin) :=
  (mcheck_next_iff Config.hw s _).2 ⟨hr, hp, .inr ⟨m, hg, (validMsg_hw m).2 ⟨hmin, hmax⟩, rfl⟩⟩

/-- An invalid offer is refused by the check that samples it (R201). -/
theorem exec_mcheck_of_invalid_offer {m : Message} (ho : s.offer = some m) (hv : validMsg Config.hw m ≠ true) :
    exec .mcheck s = .refused .invalidMessage := by
  have hexec : exec .mcheck s = mcheck Config.hw s := rfl
  rw [hexec, mcheck, enabled_of_phase hr hp, State.gather_of_offer ho, ho]
  exact if_neg hv

end

/-- Settles O26: what the check gathers is the burst's message or nothing, and a message that is gathered is installed. -/
theorem mcheckReadsTheChannel : Obligations.McheckReadsTheChannel := by
  unfold Obligations.McheckReadsTheChannel
  intro s burst later hr hp ho hi
  have hg : s.gather Config.hw =
      { s with inputs := burstRest Config.hw burst ++ later, offer := burstOffer Config.hw burst } := by
    rw [State.gather_of_no_offer ho, State.accumulate_cons hi, ho, Option.or_none]
  have hoffer : (s.gather Config.hw).offer = burstOffer Config.hw burst := by rw [hg]
  have dropped : burstOffer Config.hw burst = none →
      exec .mcheck s = .next { s with inputs := burstRest Config.hw burst ++ later, phase := .begin } := by
    intro hb
    rw [exec_mcheck_of_gather_none hr hp (hoffer.trans hb), hg, hb, ← ho]
    rfl
  have installed : ∀ m, burstOffer Config.hw burst = some m → exec .mcheck s = .next { s with
      msg := m, j := 0, loops := 0, store := saveRecord s.store m, inputs := burstRest Config.hw burst ++ later,
      phase := .begin } := by
    intro m hb
    obtain ⟨hmin, hmax⟩ := length_of_burstOffer hb
    rw [exec_mcheck_of_gather_some hr hp (hoffer.trans hb) hmin hmax, hg, acceptOffer, ← ho]
    rfl
  refine ⟨?_, fun hmin hmax => ?_, fun _ => ⟨burstRest Config.hw burst ++ later, ?_⟩⟩
  · rintro rfl
    exact dropped burstOffer_nil
  · rw [installed burst (burstOffer_of_length hmin hmax), burstRest_of_length_le hmax]
    rfl
  · cases hb : burstOffer Config.hw burst with
    | none => exact .inl (dropped hb)
    | some m =>
      obtain ⟨hmin, hmax⟩ := length_of_burstOffer hb
      exact .inr ⟨m, hmin, hmax, installed m hb⟩

/-! ### OFFER, STORE_SAVE and STORE_LOAD (R202, R204, R205) -/

theorem exec_offer_some (m : Message) (s : State) : exec (.offer (some m)) s =
    if validMsg Config.hw m then .next { s with offer := some m } else .refused .invalidMessage := rfl

theorem exec_storeSave (m : Message) (s : State) : exec (.storeSave m) s =
    if validMsg Config.hw m then .next { s with store := saveRecord s.store m } else .refused .invalidMessage := rfl

theorem exec_storeSave_of_length {m : Message} (hmin : 1 ≤ m.length) (hmax : m.length ≤ 128) (s : State) :
    exec (.storeSave m) s = .next { s with store := saveRecord s.store m } := by
  rw [exec_storeSave, if_pos ((validMsg_hw m).2 ⟨hmin, hmax⟩)]

theorem exec_storeLoad (s : State) :
    exec .storeLoad s = .next { s with answer := .message (loadRecord Config.hw s.store) } := rfl

/-- Settles O34: a valid message passes the boundary, and OFFER writes one field. -/
theorem offerIsPresentedToTheNextCheck : Obligations.OfferIsPresentedToTheNextCheck := by
  unfold Obligations.OfferIsPresentedToTheNextCheck
  intro s
  refine ⟨rfl, fun m hmin hmax => ?_⟩
  rw [exec_offer_some, if_pos ((validMsg_hw m).2 ⟨hmin, hmax⟩)]

/-- Settles O27: the three operations that take a message ask first whether it is valid. -/
theorem invalidMessagesAreRefused : Obligations.InvalidMessagesAreRefused := by
  unfold Obligations.InvalidMessagesAreRefused
  intro s m hbad
  have hv : validMsg Config.hw m ≠ true := fun h => by
    obtain ⟨hmin, hmax⟩ := (validMsg_hw m).1 h
    omega
  refine ⟨?_, ?_, fun hr hp ho => exec_mcheck_of_invalid_offer hr hp ho hv⟩
  · rw [exec_offer_some, if_neg hv]
  · rw [exec_storeSave, if_neg hv]

/-- Settles O36: the record's bytes are written from offset 0 up, so that each place reads as the byte written there. -/
theorem storeSaveWritesTheRecord : Obligations.StoreSaveWritesTheRecord := by
  unfold Obligations.StoreSaveWritesTheRecord
  intro s m hwf hmin hmax
  exact ⟨saveRecord s.store m, exec_storeSave_of_length hmin hmax s, storeWf_saveRecord s.store m hwf,
    toNat_storeRead_saveRecord_zero hwf hmax, fun _ => storeRead_saveRecord_char hwf, storeRead_saveRecord_terminator hwf,
    fun _ => storeRead_saveRecord_above hwf⟩

/-- Settles O35: the load looks at the length and at as many bytes after it, and answers those bytes if none is a terminator. -/
theorem storeLoadReadsTheRecordOrTheDefault : Obligations.StoreLoadReadsTheRecordOrTheDefault := by
  unfold Obligations.StoreLoadReadsTheRecordOrTheDefault
  intro s len hlen
  rw [exec_storeLoad, loadRecord_hw hlen.symm]
  refine ⟨fun hbad => by rw [if_pos (by omega)], fun hmin hmax => ?_⟩
  rw [if_neg (by omega)]
  refine ⟨?_, fun hgood => ?_⟩
  · rintro ⟨k, hk, hle, hterm⟩
    have hmem : storeRead s.store k ∈ storeReadFrom s.store 1 len :=
      (mem_storeReadFrom_iff s.store 1 len _).2 ⟨k - 1, by omega, by rw [Nat.add_sub_cancel' hk]⟩
    rw [if_pos (hterm.imp (· ▸ hmem) (· ▸ hmem))]
  · have hnot : ¬ (0x00 ∈ storeReadFrom s.store 1 len ∨ 0xFF ∈ storeReadFrom s.store 1 len) := by
      simp only [mem_storeReadFrom_iff]
      rintro (⟨k, hk, h⟩ | ⟨k, hk, h⟩)
      · exact (hgood (1 + k) (by omega) (by omega)).1 h
      · exact (hgood (1 + k) (by omega) (by omega)).2 h
    rw [if_neg hnot]
    refine ⟨_, storeReadFrom_length s.store 1 len, fun k hk => ?_, rfl⟩
    rw [storeReadFrom_getElem?, if_pos hk, Nat.add_comm 1 k]

/-- Settles O40: the length is written first, so a load that is not the default reads as many places as the new message has. -/
theorem tornSaveLoadsAMixtureOrTheDefault : Obligations.TornSaveLoadsAMixtureOrTheDefault := by
  unfold Obligations.TornSaveLoadsAMixtureOrTheDefault
  intro mem m n hwf _ hmax hn
  obtain hdefault | ⟨hload, -⟩ := loadRecord_cases Config.hw (tornSave mem m n)
  · exact .inl hdefault
  · rw [toNat_storeRead_tornSave_zero hwf hn hmax] at hload
    rw [hload]
    refine .inr ⟨storeReadFrom_length _ _ _, fun k hk => ?_⟩
    rw [storeReadFrom_getElem?, if_pos hk, Nat.add_comm 1 k]
    exact (storeRead_tornSave_char hwf n hk).imp Eq.symm (congrArg some)

/-! ### INIT (R200, R203, R207) -/

/-- Settles O33: whatever the store holds, the load of it is a valid message, which is the one that INIT installs. -/
theorem initInstallsTheStoredMessage : Obligations.InitInstallsTheStoredMessage := by
  unfold Obligations.InitInstallsTheStoredMessage
  intro s
  obtain ⟨hmin, hmax⟩ := (validMsg_hw _).1 (loadRecord_valid s.store)
  exact ⟨loadRecord Config.hw s.store, hmin, hmax, exec_storeLoad s, initMachine_hw s⟩

/-- Settles O39: only the store survives the loss of power, and the first step after it installs what the store loads as. -/
theorem savedMessageSurvivesAPowerCycle : Obligations.SavedMessageSurvivesAPowerCycle := by
  unfold Obligations.SavedMessageSurvivesAPowerCycle
  intro s t m hwf hmin hmax h0 h1 hsave
  obtain rfl := (next_eq_next _ t).1 ((exec_storeSave_of_length hmin hmax s).symm.trans hsave)
  exact ⟨_, (step_unstarted _ rfl).trans (initMachine_hw _), loadRecord_saveRecord hwf hmin hmax h0 h1⟩

@[simp] theorem State.gather_started (s : State) (c : Config) : (s.gather c).started = s.started := by
  obtain ⟨inputs, offer, h⟩ := s.gather_eq c
  rw [h]

section
variable {s t : State}

/-- No engine operation touches the flag that tells whether INIT has run. -/
theorem started_of_exec_phaseRow {p : Phase} (h : exec (phaseRow p) s = .next t) : t.started = s.started := by
  cases p
  case check =>
    obtain ⟨-, -, ⟨-, rfl⟩ | ⟨m, -, -, rfl⟩⟩ := (mcheck_next_iff Config.hw s t).1 h
    · exact s.gather_started Config.hw
    · exact s.gather_started Config.hw
  case begin =>
    obtain ⟨-, -, ch, -, rfl⟩ := (dbegin_next_iff Config.hw s t).1 h
    rfl
  case setup =>
    obtain ⟨-, -, rfl⟩ := (bset_next_iff Config.hw s t).1 h
    rfl
  case rise =>
    obtain ⟨-, -, rfl⟩ := (brise_next_iff Config.hw s t).1 h
    rfl
  case fall =>
    obtain ⟨-, -, -, rfl⟩ := (bfall_next_iff Config.hw s t).1 h
    split <;> rfl
  case latch =>
    obtain ⟨-, -, -, rfl⟩ := (dlatch_next_iff Config.hw s t).1 h
    rfl
  case settle =>
    obtain ⟨-, -, -, rfl⟩ := (dsettle_next_iff Config.hw s t).1 h
    split_ifs <;> rfl
  case frameEnd =>
    obtain ⟨-, -, rfl⟩ := (fend_next_iff Config.hw s t).1 h
    split_ifs <;> rfl

/-- After any step INIT has run: in that step or before it (R200). -/
theorem started_of_step (h : step s = .next t) : t.started = true := by
  cases hs : s.started with
  | false =>
    obtain rfl := (next_eq_next _ t).1 ((initMachine_hw s).symm.trans ((step_unstarted s hs).symm.trans h))
    rfl
  | true => exact (started_of_exec_phaseRow (step_started s hs ▸ h)).trans hs

/-- So it has after any run of at least one step. -/
theorem started_of_reaches {n : Nat} (h : s.Reaches (n + 1) t) : t.started = true := by
  induction n generalizing s with
  | zero =>
    obtain ⟨u, hu, hut⟩ := (reaches_succ s t 0).1 h
    exact (reaches_zero u t).1 hut ▸ started_of_step hu
  | succ n ih =>
    obtain ⟨u, -, hut⟩ := (reaches_succ s t (n + 1)).1 h
    exact ih hut

end

/-- Settles O42: every step leaves the flag set, and with the flag set a step is the operation that the phase selects. -/
theorem initRunsOnceAndFirst : Obligations.InitRunsOnceAndFirst := by
  unfold Obligations.InitRunsOnceAndFirst
  intro s t n h
  have hs : t.started = true := started_of_reaches h
  exact ⟨hs, phaseRow t.phase, (mem_engineRows_iff _).2 ⟨t.phase, rfl⟩, step_started t hs⟩

end Sys2Proof.Machine
end

section
/-! Input against a running frame (60_exceptions R233, R234): outside the check an engine operation neither reads nor writes the
host's side, and the check that follows FEND has the last word on the scan state. -/

namespace Sys2Proof.Machine

/-! ### The host's side (R202, R233) -/

/-- The same machine with another host's side: another store, other waiting input, another offer (log entry 7). -/
def State.withHost (s : State) (store : List Host.Cell) (inputs : List (List Byte)) (offer : Option Message) : State :=
  { s with store := store, inputs := inputs, offer := offer }

section
variable (c : Config) (s : State) (store : List Host.Cell) (inputs : List (List Byte)) (offer : Option Message)

/-! None of the tests that choose what an operation does looks at the host's side. -/

@[simp] theorem lastBit_withHost : lastBit c (s.withHost store inputs offer) = lastBit c s := rfl
@[simp] theorem lastTick_withHost : lastTick c (s.withHost store inputs offer) = lastTick c s := rfl
@[simp] theorem lastDigit_withHost : lastDigit c (s.withHost store inputs offer) = lastDigit c s := rfl
@[simp] theorem windowDue_withHost : windowDue c (s.withHost store inputs offer) = windowDue c s := rfl

end

variable {s t : State}

/-- Every engine operation but MCHECK commutes with a change of the host's side. -/
theorem exec_phaseRow_withHost {p : Phase} (hp : p ≠ .check) (h : exec (phaseRow p) s = .next t) (store : List Host.Cell)
    (inputs : List (List Byte)) (offer : Option Message) :
    exec (phaseRow p) (s.withHost store inputs offer) = .next (t.withHost store inputs offer) := by
  cases p
  case check => exact absurd rfl hp
  case begin =>
    obtain ⟨hr, hph, ch, hch, rfl⟩ := (dbegin_next_iff Config.hw s t).1 h
    exact (dbegin_next_iff Config.hw _ _).2 ⟨hr, hph, ch, hch, rfl⟩
  case setup =>
    obtain ⟨hr, hph, rfl⟩ := (bset_next_iff Config.hw s t).1 h
    exact (bset_next_iff Config.hw _ _).2 ⟨hr, hph, rfl⟩
  case rise =>
    obtain ⟨hr, hph, rfl⟩ := (brise_next_iff Config.hw s t).1 h
    exact (brise_next_iff Config.hw _ _).2 ⟨hr, hph, rfl⟩
  case fall =>
    obtain ⟨hr, hph, hc, rfl⟩ := (bfall_next_iff Config.hw s t).1 h
    refine (bfall_next_iff Config.hw _ _).2 ⟨hr, hph, hc, ?_⟩
    rw [lastBit_withHost]
    split <;> rfl
  case latch =>
    obtain ⟨hr, hph, hn, rfl⟩ := (dlatch_next_iff Config.hw s t).1 h
    exact (dlatch_next_iff Config.hw _ _).2 ⟨hr, hph, hn, rfl⟩
  case settle =>
    obtain ⟨hr, hph, hn, rfl⟩ := (dsettle_next_iff Config.hw s t).1 h
    refine (dsettle_next_iff Config.hw _ _).2 ⟨hr, hph, hn, ?_⟩
    rw [lastTick_withHost, lastDigit_withHost]
    split_ifs <;> rfl
  case frameEnd =>
    obtain ⟨hr, hph, rfl⟩ := (fend_next_iff Config.hw s t).1 h
    refine (fend_next_iff Config.hw _ _).2 ⟨hr, hph, ?_⟩
    rw [windowDue_withHost]
    split_ifs <;> rfl

/-- Settles O48: with INIT done, a step in both states is the operation of the same phase, which commutes with the change. -/
theorem hostCannotActInsideAFrame : Obligations.HostCannotActInsideAFrame := by
  unfold Obligations.HostCannotActInsideAFrame
  intro s t store inputs offer hs hp hst
  rw [step_started s hs] at hst
  exact (step_started (s.withHost store inputs offer) hs).trans (exec_phaseRow_withHost hp hst store inputs offer)

/-! ### A replacement at the end of a frame (R234) -/

/-- FEND counts the frame: of the scan state it writes `j` and `loops` alone (R152). -/
theorem State.Running.exists_step_frameEnd (h : s.Running Config.hw) (hp : s.phase = .frameEnd) :
    ∃ j loops, step s = .next { s with j := j, loops := loops, phase := .check } := by
  by_cases hn : s.loops = 9
  · exact ⟨_, _, step_frameEnd_due h.2 h.specInvariants hp hn⟩
  · exact ⟨s.j, _, step_frameEnd_more h.2 h.specInvariants hp hn⟩

/-- A check with a pending offer installs it and leaves the channel unread (R153, R202). -/
theorem State.Running.step_check_offer (h : s.Running Config.hw) (hp : s.phase = .check) {m : Message} (ho : s.offer = some m) :
    step s = .next ((acceptOffer s m).toPhase .begin) := by
  rw [step_check h.2 h.specInvariants hp h.hostOk, State.gather_of_offer ho, ho]

/-- Settles O59: FEND leaves the offer pending, and the installation overwrites the `j` and `loops` that FEND has written. -/
theorem replacementWinsOverTheFrameCounter : Obligations.ReplacementWinsOverTheFrameCounter := by
  unfold Obligations.ReplacementWinsOverTheFrameCounter
  intro s m h hp ho
  obtain ⟨j, loops, hend⟩ := h.exists_step_frameEnd hp
  exact (reaches_succ s _ 1).2 ⟨_, hend, reaches_one ((h.1.running_of_step hend).step_check_offer rfl ho)⟩

end Sys2Proof.Machine
end

section
/-! Power-on and the frame (70_reset_and_hazards R262, R264): the buffer changes in no operation but the check, and the digit that
follows INIT is the first to reach OUT. -/

namespace Sys2Proof.Machine

variable {s t : State}

/-! ### What an operation leaves of the message, the scan state and the store (R71, R153, R202) -/

/-- From DBEGIN to the last DSETTLE no operation writes the buffer, `j` or `loops` (R143 to R150). -/
theorem scan_of_exec_phaseRow {p : Phase} (hcheck : p ≠ .check) (hend : p ≠ .frameEnd) (h : exec (phaseRow p) s = .next t) :
    t.msg = s.msg ∧ t.j = s.j ∧ t.loops = s.loops := by
  cases p
  case check => exact absurd rfl hcheck
  case frameEnd => exact absurd rfl hend
  case begin =>
    obtain ⟨-, -, ch, -, rfl⟩ := (dbegin_next_iff Config.hw s t).1 h
    exact ⟨rfl, rfl, rfl⟩
  case setup =>
    obtain ⟨-, -, rfl⟩ := (bset_next_iff Config.hw s t).1 h
    exact ⟨rfl, rfl, rfl⟩
  case rise =>
    obtain ⟨-, -, rfl⟩ := (brise_next_iff Config.hw s t).1 h
    exact ⟨rfl, rfl, rfl⟩
  case fall =>
    obtain ⟨-, -, -, rfl⟩ := (bfall_next_iff Config.hw s t).1 h
    split <;> exact ⟨rfl, rfl, rfl⟩
  case latch =>
    obtain ⟨-, -, -, rfl⟩ := (dlatch_next_iff Config.hw s t).1 h
    exact ⟨rfl, rfl, rfl⟩
  case settle =>
    obtain ⟨-, -, -, rfl⟩ := (dsettle_next_iff Config.hw s t).1 h
    split_ifs <;> exact ⟨rfl, rfl, rfl⟩

/-- Outside the check the store is kept: replacing the host's side by itself changes nothing before the operation, and so nothing
after it (R202). -/
theorem store_of_exec_phaseRow {p : Phase} (hp : p ≠ .check) (h : exec (phaseRow p) s = .next t) : t.store = s.store := by
  have hsame := exec_phaseRow_withHost hp h s.store s.inputs s.offer
  have ht : t = t.withHost s.store s.inputs s.offer := (next_eq_next _ t).1 (hsame.symm.trans h)
  calc t.store = (t.withHost s.store s.inputs s.offer).store := congrArg State.store ht
    _ = s.store := rfl

/-- FEND, the one operation outside both the frame and the check, writes no buffer (R152). -/
theorem State.Running.msg_of_step (h : s.Running Config.hw) (hp : s.phase ≠ .check) (hst : step s = .next t) : t.msg = s.msg := by
  by_cases hend : s.phase = .frameEnd
  · obtain ⟨j, loops, hfend⟩ := h.exists_step_frameEnd hend
    obtain rfl := (next_eq_next _ t).1 (hfend.symm.trans hst)
    rfl
  · exact (scan_of_exec_phaseRow hp hend (step_started s h.2 ▸ hst)).1

@[simp] theorem State.gather_msg (s : State) (c : Config) : (s.gather c).msg = s.msg := by
  obtain ⟨inputs, offer, h⟩ := s.gather_eq c
  rw [h]

@[simp] theorem State.gather_i (s : State) (c : Config) : (s.gather c).i = s.i := by
  obtain ⟨inputs, offer, h⟩ := s.gather_eq c
  rw [h]

/-- A check keeps the buffer, or it installs a message and leaves the scan state at the start of a frame (R153). -/
theorem State.Running.step_check_msg (h : s.Running Config.hw) (hp : s.phase = .check) (hst : step s = .next t) :
    t.msg = s.msg ∨ t.i = 0 ∧ t.j = 0 ∧ t.loops = 0 := by
  have hi : s.i = 0 := h.specInvariants.2.1.2 (.inl hp)
  rw [step_check h.2 h.specInvariants hp h.hostOk, next_eq_next] at hst
  subst hst
  split
  · exact .inl (s.gather_msg Config.hw)
  · exact .inr ⟨(s.gather_i Config.hw).trans hi, rfl, rfl⟩

/-- Settles O47: the operations of the frame write none of the three, FEND and MCHECK are the only others, FEND writes no buffer,
and an MCHECK that changes the buffer has installed a message. -/
theorem bufferChangesOnlyBetweenFrames : Obligations.BufferChangesOnlyBetweenFrames := by
  unfold Obligations.BufferChangesOnlyBetweenFrames
  intro s t h hst
  have hexec : exec (phaseRow s.phase) s = .next t := step_started s h.2 ▸ hst
  refine ⟨fun hcheck hend => scan_of_exec_phaseRow hcheck hend hexec,
    fun hcheck => ⟨h.msg_of_step hcheck hst, store_of_exec_phaseRow hcheck hexec⟩, fun hne => ?_⟩
  have hp : s.phase = .check := by_contra fun hcheck => hne (h.msg_of_step hcheck hst)
  exact ⟨hp, (step_check_out h hp hst).1, (h.step_check_msg hp hst).resolve_left hne⟩

/-! ### The first frame (R262) -/

/-- No run that ends before the DLATCH of the digit after INIT changes OUT (R188). -/
theorem State.Inv.out_before_first_latch (h : s.Inv Config.hw) (hs : s.started = false) {n : Nat} (hn : n ≤ 50)
    (ht : s.Reaches n t) : t.out = s.out := by
  cases n with
  | zero => rw [(reaches_zero s t).1 ht]
  | succ n =>
    obtain ⟨u, hu, hut⟩ := (reaches_succ s t n).1 ht
    have hrun : u.Running Config.hw := h.running_of_step hu
    obtain rfl := (next_eq_next _ u).1 ((initMachine_hw s).symm.trans ((step_unstarted s hs).symm.trans hu))
    exact hrun.out_before_latch (Nat.le_of_succ_le_succ hn) hut

/-- Settles O60: INIT installs what STORE_LOAD answers with `j` and `i` at 0, and the digit that begins there is delivered. -/
theorem firstWordAfterInit : Obligations.FirstWordAfterInit := by
  unfold Obligations.FirstWordAfterInit
  intro s h hs
  obtain ⟨m, -, -, hload, hinit⟩ := initInstallsTheStoredMessage s
  have hstep := (step_unstarted s hs).trans hinit
  have hrun := h.running_of_step hstep
  have hdel := digitDeliversItsWord _ hrun rfl
  exact ⟨m, _, hload, State.getElem?_charAt hrun.specInvariants.1 0, fun n t => h.out_before_first_latch hs,
    _, (reaches_succ s _ 50).2 ⟨_, hstep, hdel⟩, rfl, rfl, rfl⟩

end Sys2Proof.Machine
end
